-- ==== Sys2Proof/Word.lean ====
section
/-! DEFINITION. The words, bytes, moments and timers of the model of the BZC-5120 supervisor. -/

namespace Sys2Proof

/-- One 16-bit word of the commissioning record (R190). -/
abbrev Word := BitVec 16

/-- One byte of the SPI port or of the two-wire port (R164, R191). -/
abbrev Byte := BitVec 8

/-- A moment of the model's timebase, in whole milliseconds since the load began.  The 1 ms resolution is that of R95
and R99; how the timebase moves is the DESIGN CHOICE of log entry 1. -/
abbrev Moment := Nat

/-- A timer: `none` while stopped, and while running the moment at which it next expires. -/
abbrev Timer := Option Moment

end Sys2Proof
end

