-- ==== Sys2Proof/Syntax.lean ====
section
/-! DEFINITION. The commands of the block: one constructor of `Instr` for each row of spec/opcode_table.json, with the
operands that the rule of the row says come in across the boundary. -/

namespace Sys2Proof

/-- The two roles of the ROLE strap and of the commissioning record (R162, R188). -/
inductive Role where
  | repeater
  | terminal
  deriving DecidableEq, Repr

/-- The level of a digital pin or line of the boundary. -/
inductive Level where
  | low
  | high
  deriving DecidableEq, Repr

/-- The two receive banks, RBE and RBW (chapter 3). -/
inductive Bank where
  | e
  | w
  deriving DecidableEq, Repr

/-- One raw reading of each of the sixteen front ends, in cdBm (R3, R4): the input meters 0 to 7 and the output meters
0 to 7.  The front end of a meter that is out of use delivers a level too; it is disregarded (R1). -/
structure Readings where
  input : Vector Int 8
  output : Vector Int 8
  deriving DecidableEq, Repr

/-- The four tone depths of one dwell (R41), each in millionths of the mean received light, so that the fixed threshold
of 0.05 % is 500.  DESIGN CHOICE of the unit: log entry 5. -/
structure Depths where
  isolated : Nat
  nominal : Nat
  probing : Nat
  alarm : Nat
  deriving DecidableEq, Repr

/-- What the commissioning memory does in one read transaction (R164): it withholds one of its three acknowledges, or it
returns data bytes in ascending byte address. -/
inductive BusReply where
  | noAckDevice
  | noAckAddress
  | noAckRead
  | data (bytes : List Byte)
  deriving DecidableEq, Repr

/-- What one tracker of a bank has heard since its last event: the bits demodulated, in order (R49, R51). -/
structure Heard where
  tracker : Nat
  bits : List Bool
  deriving DecidableEq, Repr

/-- The commands and events of the block, in the order of spec/opcode_table.json. -/
inductive Instr where
  /-- COLD_START (R163): power-up, or the reset pin is asserted. -/
  | coldStart
  /-- LOAD_BEGIN (R163): power is stable and the reset pin is released; the ROLE strap pin then stands at level `strap`
  (R188). -/
  | loadBegin (strap : Level)
  /-- STATION_CLOCK_TICK (R162): one whole second has passed. -/
  | stationClockTick
  /-- READING_HEADER (R165): the read transaction of word 0 is over. -/
  | readingHeader (reply : BusReply)
  /-- READING_BODY (R164): the sequential read of words 1 to N is over. -/
  | readingBody (reply : BusReply)
  /-- WORD_TRANSFER_TIMEOUT (R164): one word's transfer has lasted more than 10 ms. -/
  | wordTransferTimeout
  /-- DECLARE_VALID (R168): the first sample set, with these raw readings, is complete. -/
  | declareValid (raw : Readings)
  /-- SAMPLE_SET (R3): the sample epoch timer expires; the front ends deliver these raw readings. -/
  | sampleSet (raw : Readings)
  /-- CONFIRMATION_TIMER_EXPIRY (R38): the wake confirmation of one bank expires. -/
  | confirmationTimerExpiry (b : Bank)
  /-- DWELL_COMPLETE (R43): the 50 ms dwell of one bank ends with these four depths. -/
  | dwellComplete (b : Bank) (d : Depths)
  /-- SYNC_FOUND (R49): a tracker of bank `b` has heard `t`, and a run of 16 bits matches the sync pattern. -/
  | syncFound (b : Bank) (t : Heard)
  /-- FRAME_CHECKED (R50): tracker `t` of bank `b` has demodulated `bits` since its last event, and the frame it reads is
  complete. -/
  | frameChecked (b : Bank) (t : Nat) (bits : List Bool)
  /-- SYNC_MISSING (R51): a tracker of bank `b` has heard `t`, and the 16 bits after its last accepted frame are not the sync
  pattern. -/
  | syncMissing (b : Bank) (t : Heard)
  /-- SYNC_TIMER_EXPIRY (R52): the sync timer of tracker `t` of bank `b` expires. -/
  | syncTimerExpiry (b : Bank) (t : Nat)
  /-- RECORD_AGE_TICK (R75): a tenth of a second has passed for the neighbour record of origin `q`. -/
  | recordAgeTick (q : Byte)
  /-- FRAME_SNAPSHOT (R25): the reference period or a frame ends and the next frame begins. -/
  | frameSnapshot
  /-- JUDGEMENT_EPOCH (R85): the judgement epoch timer expires. -/
  | judgementEpoch
  /-- PROBE_EPOCH_RETRY (R152): a pending scheduled start is attempted again at an epoch expiry. -/
  | probeEpochRetry
  /-- ROUND_EPOCH_RETRY (R153): a round turn in WAITING_EPOCH is taken again at an epoch expiry. -/
  | roundEpochRetry
  /-- AMP_ISOLATION_REQUEST (R135): the PBC takes the oldest isolation request, one for an amplifier. -/
  | ampIsolationRequest
  /-- PUMP_ISOLATION_REQUEST (R137): the PBC takes the oldest isolation request, one for a pump. -/
  | pumpIsolationRequest
  /-- STEP_TIMER_EXPIRY (R133): the step timer of pump `j` expires. -/
  | stepTimerExpiry (j : Nat)
  /-- PROBE_INTERVAL_EXPIRY (R152): the probe interval timer expires. -/
  | probeIntervalExpiry
  /-- PROBE_DRIVE_REQUEST (R139): the PBC takes the oldest request for PROBE drive, and the PRU has its answer. -/
  | probeDriveRequest
  /-- PROBE_WINDOW_EXPIRY (R155): the probe window ends. -/
  | probeWindowExpiry
  /-- RESTORE_REQUEST (R140): the PBC takes the oldest restore request. -/
  | restoreRequest
  /-- GAP_TIMER_EXPIRY (R153): the gap between two probes of a round ends. -/
  | gapTimerExpiry
  /-- READ_STATUS (R176), SPI command 0x01. -/
  | readStatus
  /-- READ_PRESENCE (R177), SPI command 0x06. -/
  | readPresence (q : Byte)
  /-- READ_OBSERVATION (R177), SPI command 0x07. -/
  | readObservation (q : Byte)
  /-- WRITE_DIRECTIVE (R178), SPI command 0x04; the kind is in the two low bits of its operand byte (R191). -/
  | writeDirective (kind : Byte) (target : Byte)
  /-- CLEAR_DIRECTIVE (R179), SPI command 0x05. -/
  | clearDirective
  /-- READ_RECORD (R184), SPI command 0x02. -/
  | readRecord (i : Byte)
  /-- ADVANCE (R184), SPI command 0x03. -/
  | advance (n : Byte)
  /-- CLEAR_QUEUE (R184), SPI command 0x08. -/
  | clearQueue
  /-- BAD_COMMAND (R191): a command byte that names no command. -/
  | badCommand (code : Byte)
  /-- RECORD_TIMER_EXPIRY (R185). -/
  | recordTimerExpiry
  /-- ABSOLUTE_TIMER_EXPIRY (R185). -/
  | absoluteTimerExpiry
  deriving DecidableEq, Repr

end Sys2Proof
end

