-- ==== Sys2Proof/Decode.lean ====
section
/-! DEFINITION. Decoding: the table's bits (none), and the command that the bytes of an SPI transaction spell (R191). -/

namespace Sys2Proof

/-- The command that a word spells by the table's bits.  No row of spec/opcode_table.json gives bits, so no word spells
one. -/
def decodeTableWord (_nbits _w : Nat) : Option Instr := none

/-- The operand bytes that a command byte is followed by; a byte that names no command awaits none (R175, R191). -/
def operandCount (code : Byte) : Nat :=
  match code.toNat with
  | 0x02 | 0x03 | 0x06 | 0x07 => 1
  | 0x04 => 2
  | _ => 0

/-- The bytes that a transaction clocks in, from the falling of chip select (R175, R191): the command taken, with the
operand bytes complete, or none when chip select is released before the last operand byte.  Bytes after the operands are
filler. -/
def decodeTransaction : List Byte → Option Instr
  | [] => none
  | code :: rest =>
    match code.toNat, rest with
    | 0x01, _ => some .readStatus
    | 0x02, i :: _ => some (.readRecord i)
    | 0x02, [] => none
    | 0x03, n :: _ => some (.advance n)
    | 0x03, [] => none
    | 0x04, kind :: target :: _ => some (.writeDirective kind target)
    | 0x04, _ => none
    | 0x05, _ => some .clearDirective
    | 0x06, q :: _ => some (.readPresence q)
    | 0x06, [] => none
    | 0x07, q :: _ => some (.readObservation q)
    | 0x07, [] => none
    | 0x08, _ => some .clearQueue
    | _, _ => some (.badCommand code)

/-- The whole bytes that bits clocked in spell, most significant bit first (R188); a byte cut short is not received. -/
def bytesClocked : List Bool → List Byte
  | b7 :: b6 :: b5 :: b4 :: b3 :: b2 :: b1 :: b0 :: rest =>
    BitVec.ofNat 8 ([b7, b6, b5, b4, b3, b2, b1, b0].foldl (fun v b => 2 * v + b.toNat) 0) :: bytesClocked rest
  | _ => []

/-- The command that the bits of a transaction spell, sampled on SDI from the falling of chip select (R175, R188, R191). -/
def decodeBits (bits : List Bool) : Option Instr := decodeTransaction (bytesClocked bits)

end Sys2Proof
end

