-- ==== Sys2Proof/Config.lean ====
section
/-! DEFINITION. The fixed quantities of the part, each with the rule that gives it, and the one free value. -/

namespace Sys2Proof.Config

/-- Sample epoch, in ms (R3). -/
def sampleEpoch : Nat := 100
/-- Lower and upper bound of a clamped reading, in cdBm (R4). -/
def powerMin : Int := -6000
def powerMax : Int := 3000
/-- Hysteresis H of a rising light class, in cdB (R10). -/
def hysteresis : Int := 50
/-- Length of one bit of the tone, in ms (R23). -/
def bitTime : Nat := 8
/-- The sync pattern (R189). -/
def syncPattern : Nat := 0xE4B3
/-- The CRC's generator x^16 + x^12 + x^5 + 1, without its leading term (R30). -/
def crcPoly : BitVec 16 := 0x1021
/-- Wake confirmation, in ms (R36). -/
def confirmation : Nat := 2000
/-- One dwell, in ms (R40). -/
def dwell : Nat := 50
/-- The fixed depth threshold of 0.05 %, in millionths (R41). -/
def depthThreshold : Nat := 500
/-- The highest position (section 3.1). -/
def lastPosition : Nat := 254
/-- Trackers of one bank (R48). -/
def trackersPerBank : Nat := 6
/-- Sync timer of a LOCKED tracker, in ms (R52). -/
def syncTime : Nat := 8000
/-- Consecutive failed frames at which a LOCKED tracker gives up (R51). -/
def failedFrames : Nat := 3
/-- One age step of a neighbour record, in ms, and the age at which it saturates (R75). -/
def ageStep : Nat := 100
def ageMax : Nat := 65535
/-- First judgement epoch after a start, and the period, in ms (R85). -/
def firstEpoch : Nat := 3000
def epochPeriod : Nat := 1000
/-- Bounds of a span loss, in cdB (R91). -/
def lossMin : Int := -1000
def lossMax : Int := 6000
/-- Largest score (R103). -/
def scoreMax : Nat := 255
/-- Unit of a pump's step interval, in ms (R129). -/
def stepUnit : Nat := 10
/-- Magic byte of word 0 (R165). -/
def magic : BitVec 8 := 0x9D
/-- Device address bytes of the commissioning memory: 0x56 with the write bit, and with the read bit (R164). -/
def deviceWrite : BitVec 8 := 0xAC
def deviceRead : BitVec 8 := 0xAD
/-- Room of the Record Queue (R180). -/
def queueRoom : Nat := 128
/-- Unit of the record timer setting, in ms (R185). -/
def recordUnit : Nat := 100
/-- The 32-bit limit at which the station clock and the sweep number saturate (R40, R162). -/
def count32 : Nat := 2 ^ 32 - 1

/-- FREE VALUE (log entry 4): the bits of a payload byte to which R192 gives no field.  The first argument is the count
kept in `State.spare`, so each payload that has such bits takes fresh ones; the second is the byte's place in the payload.
Nothing fixes what they are. -/
opaque spareBits : Nat → Nat → BitVec 8

/-- FREE VALUE (log entry 28): whether the later of two RESTARTs that complete at the same moment counts as taken before the
restart, and restarts the station a second time, or as taken after it, and is abandoned; R64 has both.  The argument is the
count kept in `State.spare`. -/
opaque restartsTogether : Nat → Bool

/-- FREE VALUE (log entry 25): whether the result that a probe gave at its window is taken back when an isolation or a remap
takes the pump out of PROBE before the restore.  R141's table has the probe end without a result, and R156 has the result
stand.  The argument is the count kept in `State.spare`. -/
opaque resultWithdrawn : Nat → Bool

end Sys2Proof.Config
end

