-- ==== Sys2Proof/Machine/State.lean ====
section
/-! DEFINITION. The state of the supervisor, block by block, as plain data, and the state after reset. -/

namespace Sys2Proof.Machine

/-! ## Enumerations (R188 gives their codes, Machine/Codes.lean) -/

/-- Light classes, in rank order (R10). -/
inductive LightClass where
  | dark | faint | low | nominal
  deriving DecidableEq, Repr

/-- Markers (R18). -/
inductive Marker where
  | nominal | probing | alarm | isolated
  deriving DecidableEq, Repr

/-- Presence classes (R42). -/
inductive Presence where
  | silent | nominal | probing | alarm | isolated
  deriving DecidableEq, Repr

/-- Amplifier states (R26). -/
inductive AmpState where
  | normal | compensating | bypassed | unpumped
  deriving DecidableEq, Repr

/-- Published span verdicts (R112). -/
inductive SpanVerdict where
  | clear | suspect | fibre | cable | unpaired | lossOfLight | silentNeighbour | unknown
  deriving DecidableEq, Repr

/-- Published gain and pump verdicts (R113, R118). -/
inductive Verdict where
  | clear | suspect | faulty | unknown
  deriving DecidableEq, Repr

/-- Pump states (R131). -/
inductive PumpState where
  | active | probe | floor | off
  deriving DecidableEq, Repr

/-- Directive kinds; `unassigned` is the value 3 (R29). -/
inductive DirectiveKind where
  | release | rereference | restart | unassigned
  deriving DecidableEq, Repr

/-- Bank states (R34). -/
inductive BankState where
  | idle | running | darkWatch | wakePending
  deriving DecidableEq, Repr

/-- Freshness of a neighbour record (R71). -/
inductive Freshness where
  | vacant | fresh | stale
  deriving DecidableEq, Repr

/-- Basis of span evidence (R90). -/
inductive Basis where
  | direct | bridged | skipped | none
  deriving DecidableEq, Repr

/-! ## Configuration Loader (R162) -/

/-- Load phases.  CHECKING begins and ends within READING_BODY's event, so no state between two commands is in it. -/
inductive LoadPhase where
  | readingHeader | readingBody | checking | sampling | done
  deriving DecidableEq, Repr

/-- Load results; BAD_FIELD carries the number of the first check that failed (R162, R167). -/
inductive LoadResult where
  | ok | absent | badMagic | badLength | badChecksum | badField (check : Nat)
  deriving DecidableEq, Repr

/-- What stands on MSCL and MSDA in a read transaction, condition by condition and byte by byte (R164). -/
inductive BusSymbol where
  | start | repeatedStart | stop
  | sent (b : Byte) | acked | notAcked
  | received (b : Byte) | ackSent | ackWithheld
  | released
  deriving DecidableEq, Repr

structure Cfl where
  /-- The part is held at cold start: power not yet stable, or the reset pin asserted (R163). -/
  resetHeld : Bool
  /-- The strap as sampled at the start of the load (R163); REPEATER before it is sampled (DESIGN CHOICE, log entry 31). -/
  strap : Role
  /-- Configuration state: VALID when set, INVALID when clear. -/
  valid : Bool
  phase : LoadPhase
  /-- Load result, none while the phase is not DONE. -/
  result : Option LoadResult
  /-- Words 0 to N as read; empty when discarded. -/
  image : List Word
  /-- Station clock, in whole seconds. -/
  clock : Nat
  /-- The latest transaction on the two-wire port. -/
  bus : List BusSymbol
  deriving DecidableEq, Repr

/-! ## Line Meter Unit (R2) -/

inductive InputMeter where
  | unsampled
  | tracking (last smoothed : Int) (cls : LightClass)
  | outOfUse
  deriving DecidableEq, Repr

inductive OutputMeter where
  | unsampled
  | tracking (last smoothed : Int)
  | outOfUse
  deriving DecidableEq, Repr

structure Lmu where
  /-- Input meters of amplifiers 0 to 7. -/
  inputs : List InputMeter
  /-- Output meters of amplifiers 0 to 7. -/
  outputs : List OutputMeter
  /-- Sample epoch timer (R3). -/
  epoch : Timer
  deriving DecidableEq, Repr

/-! ## Directives and frames (R27 to R29) -/

structure Directive where
  kind : DirectiveKind
  target : Nat
  id : Nat
  deriving DecidableEq, Repr

/-- One amplifier record of a frame (R28). -/
structure FrameAmp where
  sIn : Int
  sOut : Int
  cls : LightClass
  state : AmpState
  span : SpanVerdict
  gain : Verdict
  deriving DecidableEq, Repr

/-- One pump record of a frame (R28). -/
structure FramePump where
  state : PumpState
  verdict : Verdict
  deriving DecidableEq, Repr

/-- The contents of a frame: of the one being sent, its snapshot (R25); of an accepted one, what the neighbour record
holds (R71). -/
structure Frame where
  origin : Nat
  role : Role
  pairs : Nat
  marker : Marker
  probeActive : Bool
  probePump : Nat
  pumpCount : Nat
  amps : List FrameAmp
  pumps : List FramePump
  directive : Option Directive
  deriving DecidableEq, Repr

/-! ## Tone Transmitter (R24) -/

structure Sending where
  /-- Current marker. -/
  marker : Marker
  /-- The frame in progress, its snapshot; none during the reference period (R23). -/
  frame : Option Frame
  /-- When the reference period or the frame in progress ends. -/
  ends : Moment
  /-- Whether the tone's phase, before the first bit of the frame in progress, is the reverse of that of the reference
  period (R23). -/
  reversed : Bool
  deriving DecidableEq, Repr

inductive Ttx where
  | silent
  | sending (s : Sending)
  deriving DecidableEq, Repr

/-! ## Receive banks and trackers (R34, R42, R48) -/

structure MapEntry where
  pos : Nat
  confirmed : Presence
  pending : Option Presence
  lastChange : Nat
  held : Bool
  deriving DecidableEq, Repr

structure Dwell where
  pos : Nat
  ends : Moment
  deriving DecidableEq, Repr

inductive TrackerKind where
  | pinned | capture
  deriving DecidableEq, Repr

inductive TrackerState where
  | idle | acquiring | locked
  deriving DecidableEq, Repr

/-- What the tracker is doing with the received bits (R49, R51): hunting bit by bit, reading a frame whose sync it has
found, or (LOCKED, after an accepted frame) expecting the next sync in the next 16 bits. -/
inductive Reception where
  | hunting | reading | expecting
  deriving DecidableEq, Repr

structure Tracker where
  /-- none while no kind is fixed, that is while the configuration is INVALID (R65). -/
  kind : Option TrackerKind
  state : TrackerState
  pos : Option Nat
  failed : Nat
  sync : Timer
  reception : Reception
  /-- Received bits, oldest first, that the tracker has still to work on: in hunting those from the first bit of the run to
  be compared next, in reading those after the sync, in expecting those after the last CRC bit (R49, R51). -/
  ahead : List Bool
  deriving DecidableEq, Repr

structure RxBank where
  state : BankState
  /-- One entry for each position of the bank's side, in sweep order; empty while the configuration is INVALID. -/
  map : List MapEntry
  /-- Sweep number (R40). -/
  sweep : Nat
  /-- The dwell in progress: the sweep's position counter and the end of the dwell. -/
  dwell : Option Dwell
  /-- Wake confirmation timer. -/
  confirm : Timer
  /-- Trackers T0, T1, ... in order. -/
  trackers : List Tracker
  deriving DecidableEq, Repr

/-! ## Directive Filter (R61) -/

inductive FilterMode where
  | adopt | settled
  deriving DecidableEq, Repr

structure FilterEntry where
  mode : FilterMode
  lastId : Option Nat
  deriving DecidableEq, Repr

/-- One entry for each authorised origin, the west and the east terminal position. -/
structure Filter where
  west : FilterEntry
  east : FilterEntry
  deriving DecidableEq, Repr

/-! ## Observation Table (R71); the own record of R68 is computed, see `State.ownRecord` -/

structure Neighbour where
  origin : Nat
  bank : Bank
  freshness : Freshness
  /-- In tenths of a second. -/
  age : Nat
  /-- The reference moment of the age (R75). -/
  since : Moment
  /-- The fields that need an accepted frame. -/
  contents : Option Frame
  deriving DecidableEq, Repr

/-! ## Fault Locator (R87, R95, R99, R103) -/

structure References where
  gref : Int
  oref : Int
  lref : Int
  lskip : Int
  deriving DecidableEq, Repr

inductive Suspicion where
  | clear | suspect | faulty
  deriving DecidableEq, Repr

inductive SpanKind where
  | none | fibre | cable | unpaired | lossOfLight | silentNeighbour
  deriving DecidableEq, Repr

inductive AmpKind where
  | none | runaway | deficit | pumpAttributed
  deriving DecidableEq, Repr

inductive PumpKind where
  | none | noResponse
  deriving DecidableEq, Repr

structure SpanEntry where
  score : Nat
  state : Suspicion
  kind : SpanKind
  since : Nat
  basis : Basis
  deriving DecidableEq, Repr

structure AmpEntry where
  score : Nat
  state : Suspicion
  kind : AmpKind
  since : Nat
  latch : Bool
  inputLow : Bool
  deriving DecidableEq, Repr

structure PumpEntry where
  score : Nat
  state : Suspicion
  kind : PumpKind
  since : Nat
  latch : Bool
  probed : Bool
  deficient : Bool
  deriving DecidableEq, Repr

/-- Flag as last seen and quiet-until time of one neighbour position (R95). -/
structure Quiet where
  pos : Nat
  flag : Bool
  quietUntil : Timer
  deriving DecidableEq, Repr

structure Flt where
  /-- Judgement epoch timer. -/
  epoch : Timer
  /-- References of amplifiers 0 to 2n-1. -/
  refs : List References
  spans : List SpanEntry
  amps : List AmpEntry
  pumps : List PumpEntry
  /-- Quiet-until items of p-1, p-2, p+1 and p+2, where they lie within 1 to 254. -/
  quiet : List Quiet
  /-- Settle-until time of amplifiers 0 to 2n-1. -/
  settle : List Timer
  deriving DecidableEq, Repr

/-! ## Pump and Bypass Controller (R129, R142) -/

structure Pump where
  state : PumpState
  target : Nat
  applied : Nat
  /-- Isolation latch: OFF by isolation. -/
  latch : Bool
  /-- Pre-probe drive. -/
  preProbe : Option Nat
  /-- Step timer. -/
  step : Timer
  deriving DecidableEq, Repr

inductive DemandReason where
  | upstreamBypassed | downstreamBypassed
  deriving DecidableEq, Repr

structure Demand where
  amp : Nat
  reason : DemandReason
  deriving DecidableEq, Repr

/-- An isolation request handed to the PBC and not yet taken (R119, R120). -/
inductive IsolationRequest where
  | amp (a : Nat) (kind : AmpKind)
  | pump (j : Nat)
  deriving DecidableEq, Repr

/-- The result that a probe gave at its window: the PUMP entry before it and after it (R116). -/
structure GivenResult where
  before : PumpEntry
  after : PumpEntry
  deriving DecidableEq, Repr

/-- A request for the restore of a pump's drive, handed to the PBC and not yet taken (R140).  `result` is the model's own note of
the result given with it, if any (log entry 25). -/
structure RestoreRequest where
  pump : Nat
  result : Option GivenResult
  deriving DecidableEq, Repr

/-- A request for PROBE drive handed to the PBC and not yet taken (R151).  `stale` is set when a warm restart has come
since it was made (R154). -/
structure DriveRequest where
  pump : Nat
  stale : Bool
  deriving DecidableEq, Repr

structure Pbc where
  /-- Pump records 0 to m-1. -/
  pumps : List Pump
  /-- Bypass latches of amplifiers 0 to 2n-1. -/
  bypass : List Bool
  demands : List Demand
  /-- Positions of the eight bypass switches themselves: set, or in-line.  They latch by themselves, so a cold start
  leaves them where they stand (R146). -/
  switches : List Bool
  /-- Isolation requests of the FLT, oldest first. -/
  isolations : List IsolationRequest
  /-- Requests of the PRU for PROBE drive, oldest first. -/
  driveRequests : List DriveRequest
  /-- Restore requests of the PRU, oldest first. -/
  restores : List RestoreRequest
  deriving DecidableEq, Repr

/-! ## Probe Unit (R150) -/

inductive ProbeSource where
  | scheduled | round
  deriving DecidableEq, Repr

structure Probe where
  pump : Nat
  source : ProbeSource
  /-- Member amplifiers, each with its pre value in cdBm. -/
  members : List (Nat × Int)
  deriving DecidableEq, Repr

inductive ProbeState where
  | idle
  | starting (p : Probe)
  /-- PROBING, with the moment at which the probe window expires. -/
  | probing (p : Probe) (window : Moment)
  deriving DecidableEq, Repr

inductive RoundTurn where
  | none | waitingGap | waitingEpoch
  deriving DecidableEq, Repr

/-- An expedited round in progress: the pumps not yet visited, and the round turn. -/
structure Round where
  left : List Nat
  turn : RoundTurn
  deriving DecidableEq, Repr

structure Pru where
  state : ProbeState
  rotation : Nat
  interval : Timer
  /-- A scheduled start is pending. -/
  scheduled : Bool
  /-- The expedited-round flag with its list and turn: none while the flag is clear. -/
  round : Option Round
  gap : Timer
  deriving DecidableEq, Repr

/-! ## Terminal Port (R178, R180, R185) -/

/-- What a Record Queue record tells: its kind, element, field, old value and new value (R180, R181). -/
inductive Change where
  | presence (old new : Presence)
  | ampState (a : Nat) (old new : AmpState)
  | spanVerdict (a : Nat) (old new : SpanVerdict)
  | gainVerdict (a : Nat) (old new : Verdict)
  | pumpState (j : Nat) (old new : PumpState)
  | pumpVerdict (j : Nat) (old new : Verdict)
  | directive (old : Option Directive) (new : Directive)
  deriving DecidableEq, Repr

inductive Severity where
  | info | major | critical
  deriving DecidableEq, Repr

structure Record where
  origin : Nat
  change : Change
  severity : Severity
  stamp : Nat
  lostBefore : Nat
  deriving DecidableEq, Repr

/-- The set of pending attention causes (R185). -/
structure Causes where
  recordTimer : Bool
  absoluteTimer : Bool
  critical : Bool
  lowSpace : Bool
  overrun : Bool
  deriving DecidableEq, Repr

/-- Status of a response (R175). -/
inductive Status where
  | ok | badTarget | notValid | badCommand
  deriving DecidableEq, Repr

structure Response where
  status : Status
  payload : List Byte
  deriving DecidableEq, Repr

structure Tpt where
  /-- The Record Queue, oldest first. -/
  queue : List Record
  overrun : Nat
  gap : Nat
  causes : Causes
  recordTimer : Timer
  absoluteTimer : Timer
  /-- Directive register. -/
  directive : Option Directive
  idCounter : Nat
  /-- The response of the last command taken, as it was fixed at that moment (R175). -/
  response : Option Response
  deriving DecidableEq, Repr

/-! ## The SPI pins (R175, section 13.5) -/

/-- The levels of the SPI inputs at one moment: clock, data in, and chip select, which is low while asserted (R175, R191). -/
structure SpiPins where
  sck : Level
  sdi : Level
  csn : Level
  deriving DecidableEq, Repr

/-- The SPI slave's own state (R175). -/
structure Spi where
  /-- The levels last seen at the pins. -/
  pins : SpiPins
  /-- The bits sampled since chip select fell, in order; none while no transaction is in progress. -/
  bits : Option (List Bool)
  /-- The model's queue of the levels that the pins are still to take, first in, first out (log entry 30). -/
  waiting : List SpiPins
  deriving DecidableEq, Repr

/-! ## Reasons to stop -/

/-- Faults.  There is none: the spec gives every command of the table an effect, and no command of this model stops. -/
inductive Fault where
  deriving DecidableEq, Repr

/-- Refusals. -/
inductive Refusal where
  /-- Raised only by an arm of `exec` whose command has no meaning yet; safe.  No arm raises it in this model. -/
  | notModelled (mnemonic : String)
  deriving DecidableEq, Repr

/-! ## The whole state -/

/-- A frame that a tracker was reading, its bank RUNNING, when a warm restart came, by the bits it had at hand. -/
structure CutFrame where
  bank : Bank
  tracker : Nat
  ahead : List Bool
  deriving DecidableEq, Repr

/-- The latest warm restart: its moment, and the frames that it cut and that have not been settled since (R64). -/
structure Restarted where
  moment : Moment
  cut : List CutFrame
  deriving DecidableEq, Repr

structure State where
  /-- The model's timebase (log entry 1). -/
  now : Moment
  cfl : Cfl
  lmu : Lmu
  ttx : Ttx
  rbe : RxBank
  rbw : RxBank
  filter : Filter
  /-- Neighbour records of the OBT. -/
  records : List Neighbour
  flt : Flt
  pbc : Pbc
  pru : Pru
  tpt : Tpt
  spi : Spi
  /-- The model's own note of the latest warm restart, for frames that complete at the same moment (R64, log entry 28). -/
  restarted : Option Restarted
  /-- The model's own count of free values taken (log entries 4, 25 and 28). -/
  spare : Nat
  /-- The model's queue of commands that wait, first in, first out. -/
  pending : List Instr
  deriving DecidableEq, Repr

/-! ## Cold-start state of each block -/

/-- R162, R163: INVALID, no result, no image, the clock at 0; the strap, not yet sampled, at REPEATER (DESIGN CHOICE, log
entry 31). -/
def Cfl.cold : Cfl :=
  { resetHeld := true, strap := .repeater, valid := false, phase := .readingHeader, result := none, image := [],
    clock := 0, bus := [] }

/-- R2, R16: every meter UNSAMPLED, the sample epoch timer stopped. -/
def Lmu.cold : Lmu :=
  { inputs := List.replicate 8 .unsampled, outputs := List.replicate 8 .unsampled, epoch := none }

/-- R65: IDLE, no kind, no position, count 0, timer stopped. -/
def Tracker.cold : Tracker :=
  { kind := none, state := .idle, pos := none, failed := 0, sync := none, reception := .hunting,
    ahead := [] }

/-- R47, R65: IDLE, sweep number 0, no dwell, the confirmation timer stopped. -/
def RxBank.cold : RxBank :=
  { state := .idle, map := [], sweep := 0, dwell := none, confirm := none,
    trackers := List.replicate Config.trackersPerBank Tracker.cold }

/-- R61: both entries ADOPT, last id none. -/
def Filter.cold : Filter := { west := ⟨.adopt, none⟩, east := ⟨.adopt, none⟩ }

/-- R85, R87, R96, R99, R126: no table, no references, no times, the epoch timer stopped. -/
def Flt.cold : Flt := { epoch := none, refs := [], spans := [], amps := [], pumps := [], quiet := [], settle := [] }

/-- R146: every record, latch, demand and request discarded; the switches stay where they stand. -/
def Pbc.cold (switches : List Bool) : Pbc :=
  { pumps := [], bypass := [], demands := [], switches := switches, isolations := [], driveRequests := [],
    restores := [] }

/-- R159: no probe, every timer stopped, nothing pending. -/
def Pru.cold : Pru :=
  { state := .idle, rotation := 0, interval := none, scheduled := false, round := none, gap := none }

def Causes.empty : Causes :=
  { recordTimer := false, absoluteTimer := false, critical := false, lowSpace := false, overrun := false }

/-- R186. -/
def Tpt.cold : Tpt :=
  { queue := [], overrun := 0, gap := 0, causes := Causes.empty, recordTimer := none, absoluteTimer := none,
    directive := none, idCounter := 0, response := none }

/-- R175: a transaction in progress is abandoned.  The levels at the pins are the master's. -/
def Spi.cold (x : Spi) : Spi := { x with bits := none }

/-- The pins of a port at rest, the clock low (R175) and chip select released; the level of SDI at reset is a DESIGN CHOICE
(log entry 30). -/
def Spi.rest : Spi := { pins := ⟨.low, .low, .high⟩, bits := none, waiting := [] }

/-- Every block in its cold-start state, with the bypass switches at the positions given and the SPI pins at the levels that
`spi` holds.  `pending`, `spare` and `restarted` are the model's own. -/
def State.cold (switches : List Bool) (spi : Spi) (spare : Nat) (pending : List Instr) : State :=
  { now := 0, cfl := Cfl.cold, lmu := Lmu.cold, ttx := .silent, rbe := RxBank.cold, rbw := RxBank.cold,
    filter := Filter.cold, records := [], flt := Flt.cold, pbc := Pbc.cold switches, pru := Pru.cold, tpt := Tpt.cold,
    spi := spi.cold, restarted := none, spare := spare, pending := pending }

/-- The machine right after reset: held at cold start, before the load begins.  DESIGN CHOICE (log entry 3): all eight
bypass switches stand in-line at power-up. -/
def State.reset : State := State.cold (List.replicate 8 false) Spi.rest 0 []

end Sys2Proof.Machine
end

