-- ==== Sys2Proof/Machine/Codes.lean ====
section
/-! DEFINITION. Bits, signed fields and enumeration codes of the boundary formats (R188). -/

namespace Sys2Proof.Machine

/-! ## Bits, most significant first (R188) -/

/-- The `w` low bits of `v`, most significant first. -/
def bitsOf (w v : Nat) : List Bool := (List.range w).map fun i => v.testBit (w - 1 - i)

/-- The number that bits spell, most significant first. -/
def natOf (bits : List Bool) : Nat := bits.foldl (fun acc b => 2 * acc + b.toNat) 0

/-- A 16-bit two's complement quantity as a number below 2^16. -/
def signedWord (x : Int) : Nat := (BitVec.ofInt 16 x).toNat

/-- The quantity that a 16-bit two's complement number stands for. -/
def signedOf (v : Nat) : Int := (BitVec.ofNat 16 v).toInt

/-- The low byte of a number. -/
def byteOf (v : Nat) : Byte := BitVec.ofNat 8 v

/-- `k` bytes of a number, high byte first (R192). -/
def bytesOf (k v : Nat) : List Byte := (List.range k).map fun i => byteOf (v >>> (8 * (k - 1 - i)))

/-! ## Codes (R188) -/

def roleCode : Role → Nat
  | .repeater => 0 | .terminal => 1

/-- The role that the ROLE strap pin selects. -/
def roleOfStrap : Level → Role
  | .low => .repeater | .high => .terminal

def roleOfCode (v : Nat) : Role := if v % 2 = 0 then .repeater else .terminal

def Marker.code : Marker → Nat
  | .nominal => 0 | .probing => 1 | .alarm => 2 | .isolated => 3

def Marker.ofCode (v : Nat) : Marker :=
  match v % 4 with
  | 0 => .nominal | 1 => .probing | 2 => .alarm | _ => .isolated

def LightClass.code : LightClass → Nat
  | .dark => 0 | .faint => 1 | .low => 2 | .nominal => 3

def LightClass.ofCode (v : Nat) : LightClass :=
  match v % 4 with
  | 0 => .dark | 1 => .faint | 2 => .low | _ => .nominal

def AmpState.code : AmpState → Nat
  | .normal => 0 | .compensating => 1 | .bypassed => 2 | .unpumped => 3

def AmpState.ofCode (v : Nat) : AmpState :=
  match v % 4 with
  | 0 => .normal | 1 => .compensating | 2 => .bypassed | _ => .unpumped

def SpanVerdict.code : SpanVerdict → Nat
  | .clear => 0 | .suspect => 1 | .fibre => 2 | .cable => 3 | .unpaired => 4 | .lossOfLight => 5
  | .silentNeighbour => 6 | .unknown => 7

def SpanVerdict.ofCode (v : Nat) : SpanVerdict :=
  match v % 8 with
  | 0 => .clear | 1 => .suspect | 2 => .fibre | 3 => .cable | 4 => .unpaired | 5 => .lossOfLight
  | 6 => .silentNeighbour | _ => .unknown

def Verdict.code : Verdict → Nat
  | .clear => 0 | .suspect => 1 | .faulty => 2 | .unknown => 3

def Verdict.ofCode (v : Nat) : Verdict :=
  match v % 4 with
  | 0 => .clear | 1 => .suspect | 2 => .faulty | _ => .unknown

def PumpState.code : PumpState → Nat
  | .active => 0 | .probe => 1 | .floor => 2 | .off => 3

def PumpState.ofCode (v : Nat) : PumpState :=
  match v % 4 with
  | 0 => .active | 1 => .probe | 2 => .floor | _ => .off

def DirectiveKind.code : DirectiveKind → Nat
  | .release => 0 | .rereference => 1 | .restart => 2 | .unassigned => 3

def DirectiveKind.ofCode (v : Nat) : DirectiveKind :=
  match v % 4 with
  | 0 => .release | 1 => .rereference | 2 => .restart | _ => .unassigned

def Presence.code : Presence → Nat
  | .silent => 0 | .nominal => 1 | .probing => 2 | .alarm => 3 | .isolated => 4

/-- A pending class; none is 0xFF. -/
def pendingCode : Option Presence → Nat
  | some p => Presence.code p
  | none => 0xFF

def BankState.code : BankState → Nat
  | .idle => 0 | .running => 1 | .darkWatch => 2 | .wakePending => 3

def Freshness.code : Freshness → Nat
  | .vacant => 0 | .fresh => 1 | .stale => 2

def bankCode : Bank → Nat
  | .e => 0 | .w => 1

def Severity.code : Severity → Nat
  | .info => 0 | .major => 1 | .critical => 2

/-- Status codes (R191). -/
def Status.code : Status → Nat
  | .ok => 0 | .badTarget => 1 | .notValid => 2 | .badCommand => 3

/-- Load result codes, none being 0 (R192). -/
def loadResultCode : Option LoadResult → Nat
  | none => 0
  | some .ok => 1 | some .absent => 2 | some .badMagic => 3 | some .badLength => 4 | some .badChecksum => 5
  | some (.badField _) => 6

/-- Number of the failing check, 0 unless BAD_FIELD (R192). -/
def failingCheck : Option LoadResult → Nat
  | some (.badField k) => k
  | _ => 0

end Sys2Proof.Machine
end

