-- ==== Sys2Proof/Machine/Commissioning.lean ====
section
/-! DEFINITION. The commissioning record: its words, its checksum, its fields and its sixteen validity checks
(R164 to R167, R190). -/

namespace Sys2Proof.Machine

/-- Fields of one pump (R190, words 25+8n+5j to 29+8n+5j). -/
structure PumpConfig where
  mask : Byte
  stepSize : Nat
  remapOff : Bool
  interval : Nat
  base : Nat
  retain : Bool
  floor : Nat
  ceiling : Nat
  depth : Nat
  deriving DecidableEq, Repr

/-- The commissioning record's fields (R190). -/
structure Commissioning where
  magic : Nat
  length : Nat
  position : Nat
  role : Role
  n : Nat
  m : Nat
  west : Nat
  east : Nat
  supPair : Nat
  shift : Nat
  /-- Words 4 to 7. -/
  interest : List Word
  td : Int
  tf : Int
  tl : Int
  tsHi : Int
  tsLo : Int
  tgHi : Int
  tgLo : Int
  tr : Nat
  ws : Nat
  wg : Nat
  ampIsolation : Bool
  pumpIsolation : Bool
  wp : Nat
  ls : Nat
  ld : Nat
  lr : Nat
  /-- Staleness limit, s. -/
  stale : Nat
  ti : Nat
  c : Nat
  rinc : Nat
  /-- Probe interval, s. -/
  interval : Nat
  /-- Probe window, s. -/
  window : Nat
  /-- Dither depth, in 0.1 %. -/
  dither : Nat
  rmin : Nat
  tq : Nat
  lowSpace : Nat
  refs : List References
  pumps : List PumpConfig
  deriving DecidableEq, Repr

/-! ## Words and bytes -/

/-- Words from bytes, the high byte of each at the lower address (R164); a last odd byte makes no word. -/
def wordsOf : List Byte → List Word
  | hi :: lo :: rest => (hi ++ lo) :: wordsOf rest
  | _ => []

/-- The bits `hi` down to `lo` of a word, as a number. -/
def field (hi lo : Nat) (w : Word) : Nat := (w.toNat >>> lo) % 2 ^ (hi + 1 - lo)

/-- Ones'-complement sum: 16-bit words added with the carry out of the top bit added back in at the bottom (R166). -/
def onesSum (ws : List Word) : Nat :=
  ws.foldl (fun acc w => if acc + w.toNat < 0x10000 then acc + w.toNat else acc + w.toNat - 0xFFFF) 0

/-! ## The word map (R190) -/

/-- Word `i` of an image.  An image shorter than the map fails check 5, whatever a word beyond it is read as. -/
def wordAt (image : List Word) (i : Nat) : Word := image.getD i 0

def readReferences (image : List Word) (a : Nat) : References :=
  { gref := (wordAt image (25 + 4 * a)).toInt, oref := (wordAt image (26 + 4 * a)).toInt,
    lref := (wordAt image (27 + 4 * a)).toInt, lskip := (wordAt image (28 + 4 * a)).toInt }

def readPump (image : List Word) (n j : Nat) : PumpConfig :=
  let w := fun i => wordAt image (25 + 8 * n + 5 * j + i)
  { mask := byteOf (field 15 8 (w 0)), stepSize := field 7 0 (w 0), remapOff := (w 1).getLsbD 15,
    interval := field 14 10 (w 1), base := field 9 0 (w 1), retain := (w 2).getLsbD 15, floor := field 9 0 (w 2),
    ceiling := field 9 0 (w 3), depth := field 9 0 (w 4) }

/-- The fields of a record image. -/
def readCommissioning (image : List Word) : Commissioning :=
  let w := wordAt image
  let n := field 6 4 (w 1)
  let m := field 2 0 (w 1)
  { magic := field 15 8 (w 0), length := field 7 0 (w 0), position := field 15 8 (w 1),
    role := roleOfCode (field 7 7 (w 1)), n := n, m := m, west := field 15 8 (w 2), east := field 7 0 (w 2),
    supPair := field 15 8 (w 3), shift := field 7 0 (w 3), interest := [w 4, w 5, w 6, w 7], td := (w 8).toInt,
    tf := (w 9).toInt, tl := (w 10).toInt, tsHi := (w 11).toInt, tsLo := (w 12).toInt, tgHi := (w 13).toInt,
    tgLo := (w 14).toInt, tr := (w 15).toNat, ws := field 15 12 (w 16), wg := field 11 8 (w 16),
    ampIsolation := (w 16).getLsbD 7, pumpIsolation := (w 16).getLsbD 6, wp := field 5 0 (w 16),
    ls := field 15 8 (w 17), ld := field 7 0 (w 17), lr := field 15 8 (w 18), stale := field 7 0 (w 18),
    ti := (w 19).toNat, c := field 15 8 (w 20), rinc := field 7 0 (w 20), interval := (w 21).toNat,
    window := field 15 8 (w 22), dither := field 7 0 (w 22), rmin := (w 23).toNat, tq := field 15 8 (w 24),
    lowSpace := field 7 0 (w 24), refs := (List.range (2 * n)).map (readReferences image),
    pumps := (List.range m).map (readPump image n) }

/-! ## Derived quantities -/

/-- Number of amplifiers, 2n (section 3.3). -/
def Commissioning.ampCount (c : Commissioning) : Nat := 2 * c.n

/-- Parameters of pump `j`.  No pump beyond the count is ever asked for. -/
def Commissioning.pump (c : Commissioning) (j : Nat) : PumpConfig :=
  c.pumps.getD j
    { mask := 0, stepSize := 0, remapOff := false, interval := 0, base := 0, retain := false, floor := 0, ceiling := 0,
      depth := 0 }

/-- Amplifier `a` is in the group of pump `j`: named in its mask and within 0 to 2n-1 (R129). -/
def Commissioning.feeds (c : Commissioning) (j a : Nat) : Bool := decide (a < c.ampCount) && (c.pump j).mask.getLsbD a

/-- The group of pump `j`, in ascending index (R129). -/
def Commissioning.group (c : Commissioning) (j : Nat) : List Nat := (List.range c.ampCount).filter (c.feeds j)

/-- Two groups share at least one amplifier (R129). -/
def Commissioning.intersects (c : Commissioning) (i j : Nat) : Bool :=
  (List.range c.ampCount).any fun a => c.feeds i a && c.feeds j a

/-- The supervisory-pair amplifier of a bank's direction: 2(k-1) for E, 2(k-1)+1 for W (R14, R35). -/
def Commissioning.supAmp (c : Commissioning) : Bank → Nat
  | .e => 2 * (c.supPair - 1)
  | .w => 2 * (c.supPair - 1) + 1

/-- Amplifier `a` is one of the two supervisory-pair amplifiers (section 3.3). -/
def Commissioning.isSupervisory (c : Commissioning) (a : Nat) : Bool := a == c.supAmp .e || a == c.supAmp .w

/-- The outbound bank of a TERMINAL station: RBE at the west terminal, RBW at the east terminal (R45). -/
def Commissioning.isOutbound (c : Commissioning) (b : Bank) : Bool :=
  c.role == .terminal && (match b with | .e => c.position == c.west | .w => c.position != c.west)

/-- The bit of the interest vector for the sector of position `q` (R56, R190): sector (q-1)/4, in word 4 + sector/16. -/
def Commissioning.interested (c : Commissioning) (q : Nat) : Bool :=
  (c.interest.getD ((q - 1) / 4 / 16) 0).getLsbD ((q - 1) / 4 % 16)

/-- The probe window, in ms (R95, R99, R150). -/
def Commissioning.windowMs (c : Commissioning) : Nat := 1000 * c.window

/-! ## The field validity checks (R167) -/

def inRange (lo hi x : Int) : Bool := decide (lo ≤ x) && decide (x ≤ hi)

def referencesValid (r : References) : Bool :=
  inRange (-9000) 9000 r.gref && inRange (-6000) 3000 r.oref && inRange (-1000) 6000 r.lref &&
    inRange (-1000) 6000 r.lskip

def pumpValid (p : PumpConfig) : Bool :=
  decide (p.floor ≤ p.base) && decide (p.base ≤ p.ceiling) && decide (p.ceiling ≤ 1000) && inRange 1 255 p.stepSize &&
    inRange 1 500 p.depth

/-- Whether each of the checks 1 to 16 passes, in order, for a strap value (R167). -/
def fieldChecks (c : Commissioning) (strap : Role) : List Bool :=
  [ c.role == strap,
    decide (1 ≤ c.west) && decide (c.west < c.east) && decide (c.east ≤ 254),
    match c.role with
    | .repeater => decide (c.west < c.position) && decide (c.position < c.east)
    | .terminal => c.position == c.west || c.position == c.east,
    inRange 1 4 c.n && inRange 1 4 c.m && inRange 1 c.n c.supPair,
    c.length == 25 + 8 * c.n + 5 * c.m,
    decide (c.shift ≤ 6),
    decide (-6000 < c.td) && decide (c.td < c.tf) && decide (c.tf < c.tl) && decide (c.tl ≤ 2950),
    inRange 4 60 c.stale,
    decide (c.dither % 2 = 0) && inRange 2 20 c.dither,
    inRange (-2000) 2000 c.tsHi && inRange (-2000) 2000 c.tsLo && inRange (-2000) 2000 c.tgHi &&
      inRange (-2000) 2000 c.tgLo && decide (c.tr ≤ 2000) && decide (c.tsLo < c.tsHi) && decide (c.tgLo < c.tgHi),
    inRange 1 15 c.ws && inRange 1 15 c.wg && inRange 1 63 c.wp && inRange 1 255 c.ls && inRange 1 255 c.ld &&
      decide (c.lr ≤ 254) && decide (c.ls ≤ c.ld) && decide (c.lr < c.ld) && decide (c.ti ≤ 2000),
    c.refs.all referencesValid,
    c.pumps.all pumpValid,
    (List.range c.m).any (fun j => c.feeds j (c.supAmp .e)) && (List.range c.m).any (fun j => c.feeds j (c.supAmp .w)),
    decide (c.c ≤ 255) && decide (c.rinc ≤ 255) && (c.interval == 0 || inRange 60 3600 c.interval) &&
      inRange 1 10 c.window && inRange 1 1000 c.rmin,
    decide (c.tq ≤ 255) && decide (c.lowSpace ≤ 64) ]

/-- The number of the first check that fails, if any (R167). -/
def firstFailure (c : Commissioning) (strap : Role) : Option Nat :=
  ((fieldChecks c strap).findIdx? (· == false)).map (· + 1)

/-- The commissioning record's fields as the state holds them: every block reads its parameters from the image (R170). -/
def State.cfg (s : State) : Commissioning := readCommissioning s.cfl.image

end Sys2Proof.Machine
end

