-- ==== Sys2Proof/Machine/Operands.lean ====
section
/-! DEFINITION. What the operands of the commands spell: the tone frame bit by bit (R27 to R31, R49, R50, R189), the
observed class of a dwell (R41), and the read transactions of the two-wire port, down to the levels of its lines (R164). -/

namespace Sys2Proof.Machine

/-! ## The CRC (R30) -/

/-- One covered bit taken into the 16-bit remainder register. -/
def crcStep (r : BitVec 16) (b : Bool) : BitVec 16 :=
  if xor r.msb b then (r <<< 1) ^^^ Config.crcPoly else r <<< 1

/-- The register after the bits, from a preset of all ones. -/
def crc (bits : List Bool) : BitVec 16 := bits.foldl crcStep 0xFFFF

/-! ## Sending (R27 to R30, R189) -/

def ampBits (a : FrameAmp) : List Bool :=
  bitsOf 16 (signedWord a.sIn) ++ bitsOf 16 (signedWord a.sOut) ++ bitsOf 2 a.cls.code ++ bitsOf 2 a.state.code ++
    bitsOf 3 a.span.code ++ bitsOf 2 a.gain.code

def pumpBits (p : FramePump) : List Bool := bitsOf 2 p.state.code ++ bitsOf 2 p.verdict.code

def directiveBits (d : Directive) : List Bool := bitsOf 2 d.kind.code ++ bitsOf 8 d.target ++ bitsOf 4 d.id

def headerBits (f : Frame) : List Bool :=
  bitsOf 8 f.origin ++ bitsOf 1 (roleCode f.role) ++ bitsOf 2 (f.pairs - 1) ++ bitsOf 2 f.marker.code ++
    [f.directive.isSome] ++ [f.probeActive] ++ bitsOf 2 f.probePump ++ bitsOf 2 (f.pumpCount - 1)

/-- The bits that the CRC covers: all after the sync and before the CRC. -/
def coveredBits (f : Frame) : List Bool :=
  headerBits f ++ f.amps.flatMap ampBits ++ f.pumps.flatMap pumpBits ++
    (match f.directive with | some d => directiveBits d | none => [])

/-- The frame after its sync: the covered bits and the CRC, most significant first. -/
def afterSyncBits (f : Frame) : List Bool := coveredBits f ++ bitsOf 16 (crc (coveredBits f)).toNat

/-- The whole frame as the TTX sends it. -/
def frameBits (f : Frame) : List Bool := bitsOf 16 Config.syncPattern ++ afterSyncBits f

/-! ## Receiving (R49, R50) -/

/-- `w` bits from offset `o` of the bits after the sync, as a number. -/
def bitField (bits : List Bool) (o w : Nat) : Nat := natOf ((bits.drop o).take w)

def readAmp (bits : List Bool) (o : Nat) : FrameAmp :=
  { sIn := signedOf (bitField bits o 16), sOut := signedOf (bitField bits (o + 16) 16),
    cls := LightClass.ofCode (bitField bits (o + 32) 2), state := AmpState.ofCode (bitField bits (o + 34) 2),
    span := SpanVerdict.ofCode (bitField bits (o + 36) 3), gain := Verdict.ofCode (bitField bits (o + 39) 2) }

def readPumpRecord (bits : List Bool) (o : Nat) : FramePump :=
  { state := PumpState.ofCode (bitField bits o 2), verdict := Verdict.ofCode (bitField bits (o + 2) 2) }

def readDirective (bits : List Bool) (o : Nat) : Directive :=
  { kind := DirectiveKind.ofCode (bitField bits o 2), target := bitField bits (o + 2) 8, id := bitField bits (o + 10) 4 }

/-- Length of the covered bits, from the header just read (R49): 19 header bits, the records and the directive. -/
def coveredLength (bits : List Bool) : Nat :=
  19 + 82 * (bitField bits 9 2 + 1) + 4 * (bitField bits 17 2 + 1) + 14 * bitField bits 13 1

/-- The frame that the bits after a sync spell, whatever their CRC. -/
def readFrame (bits : List Bool) : Frame :=
  let n := bitField bits 9 2 + 1
  let m := bitField bits 17 2 + 1
  let pumpsAt := 19 + 82 * n
  { origin := bitField bits 0 8, role := roleOfCode (bitField bits 8 1), pairs := n,
    marker := Marker.ofCode (bitField bits 11 2), probeActive := bitField bits 14 1 == 1,
    probePump := bitField bits 15 2, pumpCount := m,
    amps := (List.range (2 * n)).map fun i => readAmp bits (19 + 41 * i),
    pumps := (List.range m).map fun j => readPumpRecord bits (pumpsAt + 4 * j),
    directive := if bitField bits 13 1 = 1 then some (readDirective bits (pumpsAt + 4 * m)) else none }

/-- R50, first check.  A frame cut short of the length its header gives fails it. -/
def crcPasses (bits : List Bool) : Bool :=
  decide (coveredLength bits + 16 ≤ bits.length) && (crc (bits.take (coveredLength bits + 16)) == 0)

/-- R50, third check. -/
def powersInRange (f : Frame) : Bool :=
  f.amps.all fun a => inRange Config.powerMin Config.powerMax a.sIn && inRange Config.powerMin Config.powerMax a.sOut

/-- R50: the frame that a tracker assigned to position `q` accepts from the bits after a sync, if it accepts one. -/
def acceptFrame (q : Nat) (bits : List Bool) : Option Frame :=
  if crcPasses bits && ((readFrame bits).origin == q) && powersInRange (readFrame bits) then some (readFrame bits)
  else none

/-! ## The sync in the stream of received bits (R49, R51, R189) -/

/-- The sync pattern as it is received. -/
def syncBits : List Bool := bitsOf 16 Config.syncPattern

/-- The stream begins with the sync pattern. -/
def syncAhead (stream : List Bool) : Bool := stream.take 16 == syncBits

/-- The hunt: each run of 16 bits is compared with the sync pattern, moving on by one bit at a time.  The bits after the
first run that matches; none where no run does. -/
def huntSync : List Bool → Option (List Bool)
  | [] => none
  | b :: rest => if syncAhead (b :: rest) then some ((b :: rest).drop 16) else huntSync rest

/-- The bits from the one that follows the first bit of the matched run, when `stream` is what came after that run: where
the hunt resumes. -/
def resumeHunt (stream : List Bool) : List Bool := syncBits.tail ++ stream

/-- What follows in `stream` after the frame at its front: the bits after its last CRC bit. -/
def afterFrame (stream : List Bool) : List Bool := stream.drop (coveredLength stream + 16)

/-! ## The observed class of a dwell (R41) -/

/-- SILENT below the threshold at every offset; otherwise the marker of the deepest offset, and among equal depths the
one of highest marker priority. -/
def observedClass (d : Depths) : Presence :=
  let deepest := max (max d.isolated d.alarm) (max d.probing d.nominal)
  if deepest < Config.depthThreshold then .silent
  else if d.isolated = deepest then .isolated
  else if d.alarm = deepest then .alarm
  else if d.probing = deepest then .probing
  else .nominal

/-! ## The two-wire port (R164) -/

/-- The data bytes of a read: each acknowledged by the CFL but for the last. -/
def receivedBytes : List Byte → List BusSymbol
  | [] => []
  | [b] => [.received b, .ackWithheld]
  | b :: rest => .received b :: .ackSent :: receivedBytes rest

/-- One read transaction from byte address `address`, as far as the memory lets it go. -/
def busTransaction (address : Byte) : BusReply → List BusSymbol
  | .noAckDevice => [.start, .sent Config.deviceWrite, .notAcked]
  | .noAckAddress => [.start, .sent Config.deviceWrite, .acked, .sent address, .notAcked]
  | .noAckRead =>
    [.start, .sent Config.deviceWrite, .acked, .sent address, .acked, .repeatedStart, .sent Config.deviceRead, .notAcked]
  | .data bytes =>
    [.start, .sent Config.deviceWrite, .acked, .sent address, .acked, .repeatedStart, .sent Config.deviceRead, .acked] ++
      receivedBytes bytes ++ [.stop]

/-- The levels of the two lines at one moment. -/
structure Wires where
  mscl : Level
  msda : Level
  deriving DecidableEq, Repr

def levelOf (b : Bool) : Level := if b then .high else .low

/-- One clock with a data level: MSDA is set while MSCL is low and stands through the clock (R164). -/
def clocked (msda : Level) : List Wires := [⟨.low, msda⟩, ⟨.high, msda⟩, ⟨.low, msda⟩]

/-- What the two lines do for one symbol, moment by moment: a start is MSDA falling and a stop MSDA rising while MSCL is
high, a byte is its bits most significant first, an acknowledge is MSDA low through the ninth clock (R164).  A port that
releases the bus drives neither line low. -/
def BusSymbol.wires : BusSymbol → List Wires
  | .start => [⟨.high, .high⟩, ⟨.high, .low⟩, ⟨.low, .low⟩]
  | .repeatedStart => [⟨.low, .high⟩, ⟨.high, .high⟩, ⟨.high, .low⟩, ⟨.low, .low⟩]
  | .stop => [⟨.low, .low⟩, ⟨.high, .low⟩, ⟨.high, .high⟩]
  | .sent b | .received b => (bitsOf 8 b.toNat).flatMap fun x => clocked (levelOf x)
  | .acked | .ackSent => clocked .low
  | .notAcked | .ackWithheld => clocked .high
  | .released => [⟨.high, .high⟩]

/-- MSCL and MSDA through the latest transaction on the two-wire port. -/
def Cfl.wires (x : Cfl) : List Wires := x.bus.flatMap BusSymbol.wires

end Sys2Proof.Machine
end

