-- ==== Sys2Proof/Machine/Meters.lean ====
section
/-! DEFINITION. The Line Meter Unit: clamp, smoothing and light classes (chapter 1). -/

namespace Sys2Proof.Machine

/-- Clamped to a range (section 3.4). -/
def clampTo (lo hi x : Int) : Int := max lo (min hi x)

/-- R4. -/
def clampReading (raw : Int) : Int := clampTo Config.powerMin Config.powerMax raw

/-- The step of R6 for a difference `d`: all of it for k = 0, and otherwise (d + 2^(k-1)) / 2^k rounded down. -/
def smoothStep (k : Nat) (d : Int) : Int := if k = 0 then d else (d + 2 ^ (k - 1)) / 2 ^ k

/-- R6: the new smoothed value from the smoothing shift, the present one and the clamped reading. -/
def smooth (k : Nat) (s r : Int) : Int := s + smoothStep k (r - s)

/-- Rank of a light class (R10). -/
def LightClass.rank (x : LightClass) : Nat := x.code

/-- The highest class whose lower threshold is at or below `s`, DARK if none is (R11, R12). -/
def classAt (c : Commissioning) (s : Int) : LightClass :=
  if c.tl ≤ s then .nominal else if c.tf ≤ s then .low else if c.td ≤ s then .faint else .dark

/-- `s` is below the lower threshold of a class; DARK has none (R10). -/
def belowClass (c : Commissioning) (s : Int) : LightClass → Bool
  | .dark => false
  | .faint => decide (s < c.td)
  | .low => decide (s < c.tf)
  | .nominal => decide (s < c.tl)

/-- R11: fall, rise with hysteresis, or hold. -/
def nextClass (c : Commissioning) (s : Int) (present : LightClass) : LightClass :=
  if belowClass c s present then classAt c s
  else if present.rank < (classAt c (s - Config.hysteresis)).rank then classAt c (s - Config.hysteresis)
  else present

/-! ## Meters -/

/-- R5: the first reading of an in-use input meter, classified by R12. -/
def InputMeter.first (c : Commissioning) (raw : Int) : InputMeter :=
  .tracking (clampReading raw) (clampReading raw) (classAt c (clampReading raw))

/-- R5 for an output meter. -/
def OutputMeter.first (raw : Int) : OutputMeter := .tracking (clampReading raw) (clampReading raw)

/-- R6 and R11: a later reading of a meter in TRACKING. -/
def InputMeter.sample (c : Commissioning) (raw : Int) : InputMeter → InputMeter
  | .tracking _ s cls =>
    let s' := smooth c.shift s (clampReading raw)
    .tracking (clampReading raw) s' (nextClass c s' cls)
  | m => m

/-- R6 for an output meter. -/
def OutputMeter.sample (c : Commissioning) (raw : Int) : OutputMeter → OutputMeter
  | .tracking _ s => .tracking (clampReading raw) (smooth c.shift s (clampReading raw))
  | m => m

/-- The first sample set (R2, R3, R5): meters 0 to 2n-1 to TRACKING, the others to OUT_OF_USE. -/
def Lmu.firstSet (c : Commissioning) (raw : Readings) (l : Lmu) : Lmu :=
  { l with
    inputs := raw.input.toList.mapIdx fun a r => if a < c.ampCount then InputMeter.first c r else .outOfUse
    outputs := raw.output.toList.mapIdx fun a r => if a < c.ampCount then OutputMeter.first r else .outOfUse }

/-- A later sample set (R3), all meters together. -/
def Lmu.sampleSet (c : Commissioning) (raw : Readings) (l : Lmu) : Lmu :=
  { l with
    inputs := List.zipWith (fun m r => InputMeter.sample c r m) l.inputs raw.input.toList
    outputs := List.zipWith (fun m r => OutputMeter.sample c r m) l.outputs raw.output.toList }

def InputMeter.cls? : InputMeter → Option LightClass
  | .tracking _ _ cls => some cls
  | _ => none

def InputMeter.smoothed? : InputMeter → Option Int
  | .tracking _ s _ => some s
  | _ => none

def InputMeter.last? : InputMeter → Option Int
  | .tracking r _ _ => some r
  | _ => none

def OutputMeter.smoothed? : OutputMeter → Option Int
  | .tracking _ s => some s
  | _ => none

def OutputMeter.last? : OutputMeter → Option Int
  | .tracking r _ => some r
  | _ => none

/-- The class of the input meter of amplifier `a`, or none (R1). -/
def Lmu.cls? (l : Lmu) (a : Nat) : Option LightClass := l.inputs[a]?.bind InputMeter.cls?

/-- S_in(a), or none (R1). -/
def Lmu.sIn? (l : Lmu) (a : Nat) : Option Int := l.inputs[a]?.bind InputMeter.smoothed?

/-- S_out(a), or none (R1). -/
def Lmu.sOut? (l : Lmu) (a : Nat) : Option Int := l.outputs[a]?.bind OutputMeter.smoothed?

/-- S_in(a) and S_out(a) of an own amplifier, which has them while the configuration is VALID (R3); the default is never
read then (log entry 9). -/
def Lmu.sIn (l : Lmu) (a : Nat) : Int := (l.sIn? a).getD 0
def Lmu.sOut (l : Lmu) (a : Nat) : Int := (l.sOut? a).getD 0

/-- The input class of an own amplifier, which has one while the configuration is VALID (R3, log entry 9). -/
def Lmu.cls (l : Lmu) (a : Nat) : LightClass := (l.cls? a).getD .dark

/-- The input of amplifier `a` is DARK. -/
def Lmu.isDark (l : Lmu) (a : Nat) : Bool := l.cls? a == some .dark

/-- The input of amplifier `a` is DARK or FAINT (R98, R113). -/
def Lmu.isLow (l : Lmu) (a : Nat) : Bool := l.cls? a == some .dark || l.cls? a == some .faint

/-- One class-change event (R13). -/
structure ClassChange where
  amp : Nat
  old : LightClass
  new : LightClass
  deriving DecidableEq, Repr

/-- The class-change events of a sample set that takes the meters from `l` to `l'`, in amplifier order (R13). -/
def classChanges (l l' : Lmu) : List ClassChange :=
  (List.range 8).filterMap fun a =>
    match l.cls? a, l'.cls? a with
    | some x, some y => if x = y then none else some ⟨a, x, y⟩
    | _, _ => none

end Sys2Proof.Machine
end

