-- ==== Sys2Proof/Machine/Ops.lean ====
section
/-! DEFINITION. The operations that the blocks share: time, banks, the lookup helpers of the Observation Table
(R80 to R82) and what the PBC's state says of each amplifier and pump (R26, R132). -/

namespace Sys2Proof.Machine

/-! ## Time -/

/-- A timer that expires at `d` has expired, so the timebase stands at `d` or later (log entry 1). -/
def State.reach (s : State) (d : Moment) : State := { s with now := max s.now d }

/-- One more free value taken (log entries 4, 25 and 28). -/
def State.spend (s : State) : State := { s with spare := s.spare + 1 }

/-- A count that saturates at 2^32-1 (R40, R162). -/
def saturate32 (x : Nat) : Nat := min x Config.count32

/-! ## Banks -/

def State.bank (s : State) : Bank → RxBank
  | .e => s.rbe
  | .w => s.rbw

def State.setBank (s : State) (b : Bank) (x : RxBank) : State :=
  match b with
  | .e => { s with rbe := x }
  | .w => { s with rbw := x }

/-! ## Neighbour positions (section 3.2, R80) -/

def upstreamPos (p a : Nat) : Nat := if a % 2 = 0 then p - 1 else p + 1
def upstream2Pos (p a : Nat) : Nat := if a % 2 = 0 then p - 2 else p + 2
def downstreamPos (p a : Nat) : Nat := if a % 2 = 0 then p + 1 else p - 1

/-- The amplifier of the same pair and the opposite direction (R81). -/
def partnerAmp (a : Nat) : Nat := if a % 2 = 0 then a + 1 else a - 1

/-- Pair of an amplifier (section 5.6). -/
def pairOf (a : Nat) : Nat := a / 2 + 1

/-! ## Lookup helpers (R80 to R82) -/

/-- Standing of a looked-up record. -/
inductive Standing where
  | absent | vacant | stale | fresh
  deriving DecidableEq, Repr

def findRecord (rs : List Neighbour) (q : Nat) : Option Neighbour := rs.find? fun r => r.origin == q

def Freshness.standing : Freshness → Standing
  | .vacant => .vacant | .fresh => .fresh | .stale => .stale

/-- The standing of the record for position `q` (R80). -/
def standing (rs : List Neighbour) (q : Nat) : Standing :=
  match findRecord rs q with
  | some r => r.freshness.standing
  | none => .absent

/-- What a FRESH record for position `q` holds. -/
def freshContents (rs : List Neighbour) (q : Nat) : Option Frame :=
  match findRecord rs q with
  | some r => if r.freshness = .fresh then r.contents else none
  | none => none

/-- The entry that a helper returns for own amplifier `a` from position `q`: the amplifier entry of index `i` when the
record is FRESH and its pair count reaches the pair of `a`, otherwise none (R80, R81). -/
def ampEntryAt (rs : List Neighbour) (q a i : Nat) : Option FrameAmp :=
  match freshContents rs q with
  | some f => if pairOf a ≤ f.pairs then f.amps[i]? else none
  | none => none

/-- Partner-span helper (R81). -/
def partnerSpan (rs : List Neighbour) (p a : Nat) : Option SpanVerdict :=
  (ampEntryAt rs (upstreamPos p a) a (partnerAmp a)).map FrameAmp.span

/-- Neighbour probe helper (R82): the probe pump while the flag is set, none while it is clear. -/
def probeFlag (rs : List Neighbour) (q : Nat) : Option Nat :=
  match freshContents rs q with
  | some f => if f.probeActive then some f.probePump else none
  | none => none

/-! ## Demands, redundancy and amplifier states (R26, R132) -/

/-- D_j of R132. -/
def Pbc.demandCount (p : Pbc) (c : Commissioning) (j : Nat) : Nat := p.demands.countP fun d => c.feeds j d.amp

/-- Pump `i` is in one of the given states. -/
def Pbc.isIn (p : Pbc) (i : Nat) (states : List PumpState) : Bool :=
  match p.pumps[i]? with
  | some x => states.contains x.state
  | none => false

/-- O_j of R132. -/
def Pbc.offOverlaps (p : Pbc) (c : Commissioning) (j : Nat) : Nat :=
  (List.range p.pumps.length).countP fun i => i != j && p.isIn i [.off] && c.intersects i j

/-- At least one demand or redundancy increment applies to pump `j` (R26). -/
def Pbc.incremented (p : Pbc) (c : Commissioning) (j : Nat) : Bool :=
  decide (0 < p.demandCount c j) || decide (0 < p.offOverlaps c j)

/-- The pumps whose group contains amplifier `a`. -/
def Pbc.feeders (p : Pbc) (c : Commissioning) (a : Nat) : List Nat :=
  (List.range p.pumps.length).filter fun j => c.feeds j a

/-- The bypass switch of amplifier `a` is set. -/
def Pbc.bypassed (p : Pbc) (a : Nat) : Bool := p.bypass.getD a false

/-- R26, first line that applies. -/
def Pbc.ampState (p : Pbc) (c : Commissioning) (a : Nat) : AmpState :=
  if p.bypassed a then .bypassed
  else if (p.feeders c a).all fun j => p.isIn j [.off, .floor] then .unpumped
  else if (p.feeders c a).any fun j => p.isIn j [.active, .probe] && p.incremented c j then .compensating
  else .normal

/-- R133: BUSY while ACTIVE with the applied drive away from the target.  It is computed, not stored. -/
def Pump.busy (x : Pump) : Bool := x.state == .active && x.applied != x.target

end Sys2Proof.Machine
end

