-- ==== Sys2Proof/Machine/Flags.lean ====
section
/-! DEFINITION. The flags and summaries that follow from the state: published verdicts (R112, R113, R118), the marker's
conditions (R18), the probe flag (R150), the attention line (R185), and the own record (R68). -/

namespace Sys2Proof.Machine

/-! ## Published verdicts -/

/-- The verdict that a FAULTY entry's kind publishes (R112).  A FAULTY entry always has a kind (R111); the first line is
for totality (log entry 9). -/
def SpanKind.verdict : SpanKind → SpanVerdict
  | .none => .suspect
  | .fibre => .fibre | .cable => .cable | .unpaired => .unpaired | .lossOfLight => .lossOfLight
  | .silentNeighbour => .silentNeighbour

/-- R112. -/
def SpanEntry.verdict (e : SpanEntry) : SpanVerdict :=
  match e.state with
  | .faulty => e.kind.verdict
  | .suspect => .suspect
  | .clear => if e.basis = .none then .unknown else .clear

def Suspicion.verdict : Suspicion → Verdict
  | .clear => .clear | .suspect => .suspect | .faulty => .faulty

/-- R113. -/
def AmpEntry.verdict (e : AmpEntry) : Verdict :=
  if e.latch then .faulty else if e.inputLow then .unknown else e.state.verdict

/-- R118. -/
def PumpEntry.verdict (e : PumpEntry) : Verdict :=
  if e.latch then .faulty
  else match e.state with
    | .clear => if e.probed then .clear else .unknown
    | x => x.verdict

/-! ## Probe flag (R150) -/

/-- The probe flag with its pump: set in PROBING, clear in IDLE and STARTING. -/
def Pru.flag (p : Pru) : Option Nat :=
  match p.state with
  | .probing x _ => some x.pump
  | _ => none

/-! ## Marker (R18) -/

/-- Any own amplifier is BYPASSED, or any own pump is OFF by isolation. -/
def Pbc.isolating (p : Pbc) : Bool := p.bypass.any id || p.pumps.any fun x => x.state == .off && x.latch

/-- R123: any Suspect Table entry is FAULTY. -/
def Flt.alarm (f : Flt) : Bool :=
  f.spans.any (fun e => e.state == .faulty) || f.amps.any (fun e => e.state == .faulty) ||
    f.pumps.any fun e => e.state == .faulty

/-- The marker of the highest-priority condition that holds (R18). -/
def State.markerNow (s : State) : Marker :=
  if s.pbc.isolating then .isolated
  else if s.flt.alarm then .alarm
  else if s.pru.flag.isSome then .probing
  else .nominal

/-- The TTX re-evaluates the marker on a report (R18, R19). -/
def Ttx.remark (m : Marker) : Ttx → Ttx
  | .silent => .silent
  | .sending x => .sending { x with marker := m }

def State.report (s : State) : State := { s with ttx := s.ttx.remark s.markerNow }

/-! ## Own record (R68) -/

/-- One amplifier entry of the own record. -/
structure OwnAmp where
  frame : FrameAmp
  lastIn : Option Int
  lastOut : Option Int
  spanSince : Nat
  gainSince : Nat
  deriving DecidableEq, Repr

/-- One pump entry of the own record. -/
structure OwnPump where
  frame : FramePump
  since : Nat
  deriving DecidableEq, Repr

/-- The own amplifiers as a frame snapshot and the own record show them (R25, R26, R68). -/
def State.ownAmp (s : State) (a : Nat) (span : SpanEntry) (amp : AmpEntry) : OwnAmp :=
  { frame :=
      { sIn := s.lmu.sIn a, sOut := s.lmu.sOut a, cls := s.lmu.cls a, state := s.pbc.ampState s.cfg a,
        span := span.verdict, gain := amp.verdict }
    lastIn := s.lmu.inputs[a]?.bind InputMeter.last?
    lastOut := s.lmu.outputs[a]?.bind OutputMeter.last?
    spanSince := span.since
    gainSince := amp.since }

/-- The amplifier list of the own record, 0 to 2n-1. -/
def State.ownAmps (s : State) : List OwnAmp :=
  (s.flt.spans.zip s.flt.amps).mapIdx fun a e => s.ownAmp a e.1 e.2

/-- The pump list of the own record, 0 to m-1. -/
def State.ownPumps (s : State) : List OwnPump :=
  (s.pbc.pumps.zip s.flt.pumps).map fun e => ⟨⟨e.1.state, e.2.verdict⟩, e.2.since⟩

/-- The own record (R68).  It is always current (R69), so it is computed from its owners and not stored. -/
structure OwnRecord where
  role : Role
  pairs : Nat
  pumpCount : Nat
  supPair : Nat
  marker : Marker
  probe : Option Nat
  amps : List OwnAmp
  pumps : List OwnPump
  deriving DecidableEq, Repr

/-- The own record: none while the configuration is INVALID (R70), which is while the TTX is SILENT (R24). -/
def State.ownRecord (s : State) : Option OwnRecord :=
  match s.ttx with
  | .silent => none
  | .sending t =>
    some
      { role := s.cfg.role, pairs := s.cfg.n, pumpCount := s.cfg.m, supPair := s.cfg.supPair, marker := t.marker,
        probe := s.pru.flag, amps := s.ownAmps, pumps := s.ownPumps }

/-! ## Attention (R175, R185) -/

def Causes.any (c : Causes) : Bool := c.recordTimer || c.absoluteTimer || c.critical || c.lowSpace || c.overrun

/-- The port is active: the strap has been sampled as TERMINAL and the reset pin is not held (R175). -/
def State.portActive (s : State) : Bool := !s.cfl.resetHeld && s.cfl.strap == .terminal

end Sys2Proof.Machine
end

