-- ==== Sys2Proof/Machine/Evidence.lean ====
section
/-! DEFINITION. Evidence arithmetic: gains, bases, span losses, holds and classification (chapter 6). -/

namespace Sys2Proof.Machine

inductive Evidence where
  | bad | good | neutral | held
  deriving DecidableEq, Repr

/-- Hold reasons of span evidence (R94). -/
inductive SpanHold where
  | noBasis | inputDark | neighbourProbe | neighbourQuiet
  deriving DecidableEq, Repr

/-- Hold reasons of amplifier evidence (R98). -/
inductive AmpHold where
  | inputLow | bypassed | ownProbe | settle
  deriving DecidableEq, Repr

/-- R100, span result. -/
structure SpanResult where
  evidence : Evidence
  holds : List SpanHold
  basis : Basis
  loss : Option Int
  excess : Option Int
  deriving DecidableEq, Repr

/-- R100, amplifier result. -/
structure AmpResult where
  evidence : Evidence
  kind : AmpKind
  holds : List AmpHold
  gain : Int
  deficit : Int
  runaway : Int
  deriving DecidableEq, Repr

/-! ## Gain (R89) -/

/-- The references of own amplifier `a` (R87); every own amplifier has them while VALID (log entry 9). -/
def Flt.refs? (f : Flt) (a : Nat) : References := f.refs.getD a ⟨0, 0, 0, 0⟩

def State.gain (s : State) (a : Nat) : Int := s.lmu.sOut a - s.lmu.sIn a
def State.deficit (s : State) (a : Nat) : Int := (s.flt.refs? a).gref - s.gain a
def State.runawayExcess (s : State) (a : Nat) : Int := s.lmu.sOut a - (s.flt.refs? a).oref

/-! ## Basis and span loss (R90, R91) -/

def notBypassed (e : FrameAmp) : Bool := e.state != .bypassed

/-- R90, first row that holds. -/
def State.basisOf (s : State) (a : Nat) : Basis :=
  let p := s.cfg.position
  let u := ampEntryAt s.records (upstreamPos p a) a a
  let u2 := ampEntryAt s.records (upstream2Pos p a) a a
  if u.any notBypassed then .direct
  else if u.any (fun e => e.state == .bypassed) && u2.any notBypassed then .bridged
  else if standing s.records (upstreamPos p a) != .fresh && u2.any notBypassed then .skipped
  else .none

/-- The supplying neighbour of a basis (R91): u for DIRECT, u2 for BRIDGED and SKIPPED. -/
def State.supplier (s : State) (a : Nat) : Basis → Option Nat
  | .direct => some (upstreamPos s.cfg.position a)
  | .bridged => some (upstream2Pos s.cfg.position a)
  | .skipped => some (upstream2Pos s.cfg.position a)
  | .none => none

/-- The clamped span loss from position `q` to amplifier `a` (R91). -/
def State.lossFrom (s : State) (q a : Nat) : Option Int :=
  (ampEntryAt s.records q a a).map fun e => clampTo Config.lossMin Config.lossMax (e.sOut - s.lmu.sIn a)

/-- Span loss L or L2, absent when the basis is NONE (R91, R100). -/
def State.spanLoss (s : State) (a : Nat) : Option Int := (s.supplier a (s.basisOf a)).bind fun q => s.lossFrom q a

/-- The reference a basis is judged against (R91). -/
def References.lossRef (r : References) : Basis → Int
  | .direct => r.lref
  | _ => r.lskip

/-- Excess e_L (R91). -/
def State.excess (s : State) (a : Nat) : Option Int :=
  (s.spanLoss a).map fun l => l - (s.flt.refs? a).lossRef (s.basisOf a)

/-! ## Span evidence (R93, R94) -/

/-- The quiet-until item of position `q` (R95). -/
def Flt.quietAt (f : Flt) (q : Nat) : Timer := (f.quiet.find? fun x => x.pos == q).bind Quiet.quietUntil

/-- The moment `now` falls before a quiet-until or settle-until time (R95, R99). -/
def isBefore (now : Moment) : Timer → Bool
  | some t => decide (now < t)
  | none => false

/-- R94: the hold reasons that apply. -/
def State.spanHolds (s : State) (a : Nat) : List SpanHold :=
  (if s.basisOf a = .none then [.noBasis] else []) ++
  (if s.lmu.isDark a then [.inputDark] else []) ++
  (match s.supplier a (s.basisOf a) with
    | some q =>
      (if (probeFlag s.records q).isSome then [.neighbourProbe] else []) ++
      (if isBefore s.now (s.flt.quietAt q) then [.neighbourQuiet] else [])
    | none => [])

/-- R93. -/
def classifyExcess (c : Commissioning) (e : Int) : Evidence :=
  if c.tsHi ≤ e then .bad else if c.tsLo ≤ e then .neutral else .good

/-- R100: the span result of amplifier `a`. -/
def State.spanResult (s : State) (a : Nat) : SpanResult :=
  { evidence :=
      if s.spanHolds a = [] then (match s.excess a with | some e => classifyExcess s.cfg e | none => .held) else .held
    holds := s.spanHolds a
    basis := s.basisOf a
    loss := s.spanLoss a
    excess := s.excess a }

/-! ## Amplifier evidence (R97, R98) -/

/-- R98: the hold reasons that apply. -/
def State.ampHolds (s : State) (a : Nat) : List AmpHold :=
  (if s.lmu.isLow a then [.inputLow] else []) ++
  (if s.pbc.bypassed a then [.bypassed] else []) ++
  (if s.pru.flag.any (fun j => s.cfg.feeds j a) then [.ownProbe] else []) ++
  (if isBefore s.now (s.flt.settle.getD a none) then [.settle] else [])

/-- R97: no demand and no redundancy increment applies to any pump whose group contains `a`. -/
def State.unincremented (s : State) (a : Nat) : Bool := (s.pbc.feeders s.cfg a).all fun j => !s.pbc.incremented s.cfg j

/-- R97, first line that holds. -/
def State.classifyAmp (s : State) (a : Nat) : Evidence × AmpKind :=
  if s.unincremented a && decide ((s.cfg.tr : Int) ≤ s.runawayExcess a) then (.bad, .runaway)
  else if s.cfg.tgHi ≤ s.deficit a then (.bad, .deficit)
  else if s.deficit a < s.cfg.tgLo then (.good, .none)
  else (.neutral, .none)

/-- R100: the amplifier result of amplifier `a`. -/
def State.ampResult (s : State) (a : Nat) : AmpResult :=
  { evidence := if s.ampHolds a = [] then (s.classifyAmp a).1 else .held
    kind := if s.ampHolds a = [] then (s.classifyAmp a).2 else .none
    holds := s.ampHolds a
    gain := s.gain a
    deficit := s.deficit a
    runaway := s.runawayExcess a }

end Sys2Proof.Machine
end

