-- ==== Sys2Proof/Machine/Suspects.lean ====
section
/-! DEFINITION. The Suspect Table entry by entry: scores, the level rule, kinds, loss of light, grants and clearing, and
the FLT's settle times (chapter 7, R99). -/

namespace Sys2Proof.Machine

/-- The level rule (R107). -/
def levelRule (c : Commissioning) (before : Suspicion) (score : Nat) : Suspicion :=
  match before with
  | .faulty => if c.lr < score then .faulty else if c.ls ≤ score then .suspect else .clear
  | _ => if c.ld ≤ score then .faulty else if c.ls ≤ score then .suspect else .clear

/-- The state after scoring: an entry whose score is unchanged keeps its state (R107).  DESIGN CHOICE (log entry 26): also a
SUSPECT span that a BAD result leaves at 255 where Ls and Ld are 255, though R110 says that one BAD result declares it. -/
def rescored (c : Commissioning) (before : Suspicion) (old new : Nat) : Suspicion :=
  if new = old then before else levelRule c before new

/-- A score raised by `w`, bounded at 255. -/
def raised (score w : Nat) : Nat := min Config.scoreMax (score + w)

/-- R106: the new score. -/
def scoreOf (score weight : Nat) : Evidence → Nat
  | .bad => raised score weight
  | .good => score - 1
  | .neutral => score
  | .held => score

/-- Since takes the clock when the state changes (R107). -/
def sinceOf (clock since : Nat) (before after : Suspicion) : Nat := if after = before then since else clock

/-! ## Stage 1 and the kinds (R106 to R108, R115) -/

/-- R106 and R107 for a SPAN entry; its kind is none unless FAULTY (R103). -/
def SpanEntry.scored (c : Commissioning) (clock : Nat) (r : SpanResult) (e : SpanEntry) : SpanEntry :=
  if e.kind = .lossOfLight then { e with basis := r.basis }
  else
    let score := scoreOf e.score c.ws r.evidence
    let state := rescored c e.state e.score score
    { score := score, state := state, kind := if state = .faulty then e.kind else .none,
      since := sinceOf clock e.since e.state state, basis := r.basis }

/-- R106 to R108 for an AMP entry; a latched one is set aside. -/
def AmpEntry.scored (c : Commissioning) (clock : Nat) (r : AmpResult) (e : AmpEntry) : AmpEntry :=
  if e.latch then e
  else
    let score := scoreOf e.score c.wg r.evidence
    let state := rescored c e.state e.score score
    { e with
      score := score, state := state
      kind :=
        if r.evidence = .bad then r.kind
        else if state = .clear ∧ e.state ≠ .clear then .none else e.kind
      since := sinceOf clock e.since e.state state }

/-- A PUMP entry given a new score, and the kind `kind` unless it becomes CLEAR (R107, R115). -/
def PumpEntry.rescore (c : Commissioning) (clock score : Nat) (kind : PumpKind) (e : PumpEntry) : PumpEntry :=
  let state := rescored c e.state e.score score
  { e with
    score := score, state := state
    kind := if state = .clear ∧ e.state ≠ .clear then .none else kind
    since := sinceOf clock e.since e.state state }

/-- A GOOD (`true`) or NO_RESPONSE (`false`) probe result; a latched entry sets it aside (R116, R122). -/
def PumpEntry.probeResult (c : Commissioning) (clock : Nat) (good : Bool) (e : PumpEntry) : PumpEntry :=
  if e.latch then e
  else if good then { e.rescore c clock (e.score - c.wp) .none with probed := true }
  else { e.rescore c clock (raised e.score c.wp) .noResponse with probed := true }

/-- A probe result taken back: what it changed is as it was before (R116, R141). -/
def PumpEntry.withdraw (before e : PumpEntry) : PumpEntry :=
  { e with score := before.score, state := before.state, kind := before.kind, since := before.since,
           probed := before.probed }

/-! ## Entries set directly -/

/-- R109: loss of light declared. -/
def SpanEntry.declareDark (clock : Nat) (e : SpanEntry) : SpanEntry :=
  { e with score := Config.scoreMax, state := .faulty, kind := .lossOfLight,
           since := sinceOf clock e.since e.state .faulty }

/-- R110: the input has left DARK. -/
def SpanEntry.leaveDark (c : Commissioning) (clock : Nat) (e : SpanEntry) : SpanEntry :=
  { e with score := c.ls, state := .suspect, kind := .none, since := clock }

/-- R121: the grant of an amplifier isolation with the request's kind. -/
def AmpEntry.grant (clock : Nat) (kind : AmpKind) (e : AmpEntry) : AmpEntry :=
  if e.latch then e
  else { e with latch := true, score := Config.scoreMax, state := .faulty, kind := kind,
                since := sinceOf clock e.since e.state .faulty }

/-- R121: the grant of a pump isolation, whose request carries NO_RESPONSE (R120). -/
def PumpEntry.grant (clock : Nat) (e : PumpEntry) : PumpEntry :=
  if e.latch then e
  else { e with latch := true, score := Config.scoreMax, state := .faulty, kind := .noResponse,
                since := sinceOf clock e.since e.state .faulty }

/-- R124: the entry of a released amplifier. -/
def AmpEntry.release (clock : Nat) (e : AmpEntry) : AmpEntry :=
  { e with latch := false, score := 0, state := .clear, kind := .none, since := clock }

/-- R124: the entry of a released pump; its probed mark is kept. -/
def PumpEntry.release (clock : Nat) (e : PumpEntry) : PumpEntry :=
  { e with latch := false, score := 0, state := .clear, kind := .none, since := clock }

/-- Score 0, CLEAR, kind none, since set where the state changes (R125, R127). -/
def SpanEntry.cleared (clock : Nat) (e : SpanEntry) : SpanEntry :=
  { e with score := 0, state := .clear, kind := .none, since := sinceOf clock e.since e.state .clear }

def AmpEntry.cleared (clock : Nat) (e : AmpEntry) : AmpEntry :=
  if e.latch then e
  else { e with score := 0, state := .clear, kind := .none, since := sinceOf clock e.since e.state .clear }

/-- As for the others; every deficient mark is cleared too, a latched entry's with them (R125, R127). -/
def PumpEntry.cleared (clock : Nat) (e : PumpEntry) : PumpEntry :=
  if e.latch then { e with deficient := false }
  else { e with score := 0, state := .clear, kind := .none, since := sinceOf clock e.since e.state .clear,
                deficient := false }

/-- A latched AMP entry restored FAULTY at 255 by a warm restart (R127); another entry as it is. -/
def AmpEntry.restored (e : AmpEntry) : AmpEntry :=
  if e.latch then { e with state := .faulty, score := Config.scoreMax } else e

def PumpEntry.restored (e : PumpEntry) : PumpEntry :=
  if e.latch then { e with state := .faulty, score := Config.scoreMax } else e

/-! ## The table at the start (R126) -/

def SpanEntry.start (clock : Nat) : SpanEntry :=
  { score := 0, state := .clear, kind := .none, since := clock, basis := .none }

def AmpEntry.start (clock : Nat) (inputLow : Bool) : AmpEntry :=
  { score := 0, state := .clear, kind := .none, since := clock, latch := false, inputLow := inputLow }

def PumpEntry.start (clock : Nat) : PumpEntry :=
  { score := 0, state := .clear, kind := .none, since := clock, latch := false, probed := false, deficient := false }

/-! ## Events that reach the FLT outside an epoch -/

/-- R109, R110 and R113: one class-change event. -/
def Flt.classChange (c : Commissioning) (clock : Nat) (ev : ClassChange) (f : Flt) : Flt :=
  { f with
    spans := f.spans.modify ev.amp fun e =>
      if ev.new = .dark then e.declareDark clock
      else if ev.old = .dark then e.leaveDark c clock else e
    amps := f.amps.modify ev.amp fun e => { e with inputLow := ev.new == .dark || ev.new == .faint } }

/-- R109 and R113 at a start: marks from the present classes, loss of light declared on dark inputs. -/
def Flt.takeClasses (clock : Nat) (l : Lmu) (f : Flt) : Flt :=
  { f with
    spans := f.spans.mapIdx fun a e => if l.isDark a then e.declareDark clock else e
    amps := f.amps.mapIdx fun a e => { e with inputLow := l.isLow a } }

/-- A settle-until time that becomes `t`, unless it already holds a later moment (R99). -/
def laterOf (t : Moment) : Timer → Timer
  | some x => some (max x t)
  | none => some t

/-- R99: a probe on pump `j` has ended at `now`. -/
def Flt.startSettle (c : Commissioning) (now : Moment) (j : Nat) (f : Flt) : Flt :=
  { f with settle := f.settle.mapIdx fun a t => if c.feeds j a then laterOf (now + c.windowMs) t else t }

/-- R116: a result on pump `j`. -/
def Flt.probeResult (c : Commissioning) (clock j : Nat) (good : Bool) (f : Flt) : Flt :=
  { f with pumps := f.pumps.modify j (PumpEntry.probeResult c clock good) }

/-- R95: the helper's answer for position `q` after a REPLACED or STALED announcement. -/
def Quiet.heard (until_ : Moment) (flag : Bool) (x : Quiet) : Quiet :=
  match x.flag, flag with
  | false, true => { x with flag := true, quietUntil := none }
  | true, false => { x with flag := false, quietUntil := some until_ }
  | _, _ => x

def Flt.hear (c : Commissioning) (now : Moment) (rs : List Neighbour) (q : Nat) (f : Flt) : Flt :=
  { f with
    quiet := f.quiet.map fun x =>
      if x.pos = q then x.heard (now + c.windowMs) (probeFlag rs q).isSome else x }

end Sys2Proof.Machine
end

