-- ==== Sys2Proof/Machine/Probing.lean ====
section
/-! DEFINITION. The Probe Unit: start attempts, the schedule, expedited rounds and the ends of probes (chapter 9). -/

namespace Sys2Proof.Machine

/-! ## Starting a probe (R151) -/

/-- Pump `j` is eligible for a probe: ACTIVE, with a group amplifier whose bypass latch is clear. -/
def State.eligible (s : State) (j : Nat) : Bool :=
  s.pbc.isIn j [.active] && (s.cfg.group j).any fun a => !s.pbc.bypassed a

/-- The neighbour probe helper returns set for p-1 or for p+1. -/
def State.neighbourProbing (s : State) (q : Nat) : Bool := (probeFlag s.records q).isSome

def Pru.isIdle (p : Pru) : Bool :=
  match p.state with
  | .idle => true
  | _ => false

/-- Pump `j` is BUSY. -/
def Pbc.isBusy (p : Pbc) (j : Nat) : Bool := p.pumps[j]?.any Pump.busy

/-- The preconditions of a start attempt on an eligible pump. -/
def State.mayStart (s : State) (j : Nat) : Bool :=
  !s.pbc.isBusy j && s.pru.isIdle && !s.neighbourProbing (s.cfg.position - 1) &&
    !s.neighbourProbing (s.cfg.position + 1)

/-- The members of a probe on pump `j`, each with its pre value. -/
def State.membersOf (s : State) (j : Nat) : List (Nat × Int) :=
  ((s.cfg.group j).filter fun a => !s.pbc.bypassed a).map fun a => (a, s.lmu.sOut a)

/-- What a start attempt that succeeds does: STARTING, and a request for PROBE drive on its way to the PBC. -/
def State.startProbe (s : State) (j : Nat) (source : ProbeSource) : State :=
  { s with
    pru := { s.pru with state := .starting ⟨j, source, s.membersOf j⟩ }
    pbc := { s.pbc with driveRequests := s.pbc.driveRequests ++ [⟨j, false⟩] } }

/-! ## The schedule (R152) -/

/-- The pumps from the rotation pointer on, in ascending index modulo m. -/
def State.rotationOrder (s : State) : List Nat :=
  (List.range s.cfg.m).map fun i => (s.pru.rotation + i) % s.cfg.m

/-- A scheduled attempt, while a scheduled start is pending. -/
def State.scheduledAttempt (s : State) : State :=
  match s.rotationOrder.find? s.eligible with
  | none => { s with pru := { s.pru with scheduled := false } }
  | some j =>
    if s.mayStart j then
      let s' := s.startProbe j .scheduled
      { s' with pru := { s'.pru with scheduled := false } }
    else s

/-! ## The expedited round (R153) -/

/-- A turn over the pumps left: the list is empty and the round ends, or the first pump is skipped, probed, or put back
to wait for an epoch. -/
def State.takeTurn (s : State) : List Nat → State
  | [] => { s with pru := { s.pru with round := none } }
  | j :: rest =>
    if s.eligible j then
      if s.mayStart j then
        let s' := s.startProbe j .round
        { s' with pru := { s'.pru with round := some ⟨rest, .none⟩ } }
      else { s with pru := { s.pru with round := some ⟨j :: rest, .waitingEpoch⟩ } }
    else s.takeTurn rest

/-- The FLT's request for an expedited round. -/
def State.requestRound (s : State) : State :=
  match s.pru.round with
  | some _ => s
  | none =>
    let pumps := List.range s.cfg.m
    if s.pru.isIdle then
      let s' := { s with pru := { s.pru with scheduled := false } }
      s'.takeTurn pumps
    else { s with pru := { s.pru with scheduled := false, round := some ⟨pumps, .waitingGap⟩ } }

/-! ## Ends of probes (R153 to R157) -/

/-- The probe of the given source has ended: IDLE, and for a ROUND source, or while the round turn is WAITING_GAP, the gap
timer starts. -/
def Pru.endProbe (c : Commissioning) (now : Moment) (source : ProbeSource) (p : Pru) : Pru :=
  match p.round with
  | some r =>
    if source = .round ∨ r.turn = .waitingGap then
      { p with state := .idle, gap := some (now + c.windowMs), round := some { r with turn := .waitingGap } }
    else { p with state := .idle }
  | none => { p with state := .idle }

/-- What every end of a probe does, whatever its result: the PRU's own state and gap timer, and the FLT's settle times (R99,
R153, R158). -/
def State.finishProbe (s : State) (pr : Probe) : State :=
  { s with
    pru := s.pru.endProbe s.cfg s.now pr.source
    flt := s.flt.startSettle s.cfg s.now pr.pump }

/-- What a refusal and a collision do: the probe ends ABORTED, and a SCHEDULED source leaves no start pending, so that the next
attempt comes at the next interval expiry (R154, R157). -/
def State.abortProbe (s : State) (pr : Probe) : State :=
  let s1 := s.finishProbe pr
  { s1 with pru := { s1.pru with scheduled := decide (pr.source ≠ .scheduled) && s1.pru.scheduled } }

/-- The PRU asks the PBC to restore the drive of a pump (R140). -/
def State.askRestore (s : State) (r : RestoreRequest) : State :=
  { s with pbc := { s.pbc with restores := s.pbc.restores ++ [r] } }

/-- R157: in PROBING, a set probe flag at position `q` below the own position aborts the own probe; the flag's clearing is
reported to the TTX (R158). -/
def State.collisionTest (s : State) (q : Nat) : State :=
  match s.pru.state with
  | .probing pr _ =>
    if s.neighbourProbing q && decide (q < s.cfg.position) then ((s.abortProbe pr).askRestore ⟨pr.pump, none⟩).report else s
  | _ => s

/-- The result given with the latest request, not yet taken, to restore pump `j`. -/
def Pbc.givenResult (p : Pbc) (j : Nat) : Option GivenResult :=
  (p.restores.reverse.find? fun r => r.pump == j).bind RestoreRequest.result

/-- The result `r` on pump `j` is taken back, or stands. -/
def State.reviewResult (s : State) (j : Nat) (r : GivenResult) (withdrawn : Bool) : State :=
  State.spend
    { s with
      flt :=
        { s.flt with
          pumps := if withdrawn then s.flt.pumps.modify j (PumpEntry.withdraw r.before) else s.flt.pumps } }

/-- The PBC ends a probe on pump `j` that the PRU no longer runs, its restore still on the way.  R141: the settle times start, and
the probe ends without a result; R156: a result given at the window stands.  Of a result that still stands as it was given both
outcomes are possible (DESIGN CHOICE, log entry 25). -/
def State.endLate (s : State) (j : Nat) : State :=
  let s1 := { s with flt := s.flt.startSettle s.cfg s.now j }
  match s.pbc.givenResult j with
  | some r => if s.flt.pumps[j]? = some r.after then s1.reviewResult j r (Config.resultWithdrawn s.spare) else s1
  | none => s1

/-- R141 and R156: the PBC has ended the probe on pump `j`. -/
def State.probeTaken (s : State) (j : Nat) : State :=
  match s.pru.state with
  | .probing pr _ => if pr.pump = j then s.finishProbe pr else s.endLate j
  | _ => s.endLate j

/-- R155: the pump response, the largest of the members' responses. -/
def State.pumpResponse (s : State) (pr : Probe) : Option Int :=
  ((pr.members.filter fun x => !s.pbc.bypassed x.1).map fun x => x.2 - s.lmu.sOut x.1).max?

/-- R155: GOOD if the pump response is Rmin or more.  DESIGN CHOICE (log entry 24): with no member left there is no pump
response, and the result is NO_RESPONSE. -/
def State.probeGood (s : State) (pr : Probe) : Bool :=
  match s.pumpResponse pr with
  | some r => decide ((s.cfg.rmin : Int) ≤ r)
  | none => false

/-! ## The meanings of the PRU's own events -/

/-- PROBE_INTERVAL_EXPIRY (R152). -/
def execProbeIntervalExpiry (s : State) : Host.Outcome State Fault Refusal :=
  match s.pru.interval with
  | none => .next s
  | some d =>
    let s1 := s.reach d
    let s2 := { s1 with pru := { s1.pru with interval := some (d + 1000 * s.cfg.interval) } }
    if s.pru.round.isSome || s.pru.scheduled then .next s2
    else .next (State.scheduledAttempt { s2 with pru := { s2.pru with scheduled := true } })

/-- PROBE_EPOCH_RETRY (R152). -/
def execProbeEpochRetry (s : State) : Host.Outcome State Fault Refusal :=
  if s.pru.scheduled then .next s.scheduledAttempt else .next s

/-- ROUND_EPOCH_RETRY (R153). -/
def execRoundEpochRetry (s : State) : Host.Outcome State Fault Refusal :=
  match s.pru.round with
  | some r => if r.turn = .waitingEpoch then .next (s.takeTurn r.left) else .next s
  | none => .next s

/-- GAP_TIMER_EXPIRY (R153). -/
def execGapTimerExpiry (s : State) : Host.Outcome State Fault Refusal :=
  match s.pru.gap, s.pru.round with
  | some d, some r =>
    let s1 := s.reach d
    .next (State.takeTurn { s1 with pru := { s1.pru with gap := none } } r.left)
  | _, _ => .next s

/-- What a result has made of the PUMP entry of pump `j`, from table `f` to table `g`. -/
def Flt.resultOf (f g : Flt) (j : Nat) : Option GivenResult :=
  f.pumps[j]?.bind fun before => g.pumps[j]?.map fun after => ⟨before, after⟩

/-- PROBE_WINDOW_EXPIRY (R155). -/
def execProbeWindowExpiry (s : State) : Host.Outcome State Fault Refusal :=
  match s.pru.state with
  | .probing pr d =>
    let s1 := s.reach d
    let s2 := s1.finishProbe pr
    let s3 := { s2 with flt := s2.flt.probeResult s.cfg s.cfl.clock pr.pump (s1.probeGood pr) }
    .next (s3.askRestore ⟨pr.pump, s2.flt.resultOf s3.flt pr.pump⟩).report
  | _ => .next s

end Sys2Proof.Machine
end

