-- ==== Sys2Proof/Machine/Pumps.lean ====
section
/-! DEFINITION. The Pump and Bypass Controller: targets, ramps, bypass, remap, isolation, probe drive, the Demand List and
RELEASE (chapter 8). -/

namespace Sys2Proof.Machine

/-! ## Targets and ramps (R132, R133) -/

/-- T_j, clamped to the pump's floor and ceiling (R132). -/
def Pbc.targetOf (p : Pbc) (c : Commissioning) (j : Nat) : Nat :=
  max (c.pump j).floor
    (min (c.pump j).ceiling ((c.pump j).base + c.c * p.demandCount c j + c.rinc * p.offOverlaps c j))

/-- R133 at the end of an event: a pump that has become BUSY starts its step timer, or jumps when its step interval is 0;
one that is not BUSY has its timer stopped. -/
def Pump.ramp (k : PumpConfig) (now : Moment) (x : Pump) : Pump :=
  if x.busy then
    if k.interval = 0 then { x with applied := x.target, step := none }
    else { x with step := some (x.step.getD (now + Config.stepUnit * k.interval)) }
  else { x with step := none }

/-- Every target recomputed, and every ramp with it (R132, R133). -/
def Pbc.retarget (p : Pbc) (c : Commissioning) (now : Moment) : Pbc :=
  { p with pumps := p.pumps.mapIdx fun j x => Pump.ramp (c.pump j) now { x with target := p.targetOf c j } }

/-- One step of `applied` toward `target`: the step size or the distance remaining, whichever is less (R133). -/
def stepToward (size applied target : Nat) : Nat :=
  if applied ≤ target then applied + min size (target - applied) else applied - min size (applied - target)

/-- R133: an expiry of the step timer at `d`. -/
def Pump.stepOnce (k : PumpConfig) (d : Moment) (x : Pump) : Pump :=
  let applied := stepToward k.stepSize x.applied x.target
  { x with
    applied := applied
    step := if applied = x.target then none else some (d + Config.stepUnit * k.interval) }

/-- ACTIVE from FLOOR or OFF: the applied drive starts at the floor (R131). -/
def Pump.toActive (k : PumpConfig) (x : Pump) : Pump := { x with state := .active, applied := k.floor, preProbe := none }

/-- OFF: applied drive 0, laser disabled (R131). -/
def Pump.toOff (x : Pump) : Pump := { x with state := .off, applied := 0, preProbe := none, step := none }

/-- The remap state of a pump (R136). -/
def Pump.toRemap (k : PumpConfig) (x : Pump) : Pump :=
  if k.remapOff then x.toOff else { x with state := .floor, applied := k.floor, preProbe := none, step := none }

/-! ## Bypass and remap (R136) -/

/-- Pump `j` is wholly bypassed: its group is not empty and all of it is bypassed. -/
def Pbc.whollyBypassed (p : Pbc) (c : Commissioning) (j : Nat) : Bool :=
  !(c.group j).isEmpty && (c.group j).all p.bypassed

/-- R136 for one pump whose isolation latch is clear; a latched pump is passed over. -/
def Pump.remap (k : PumpConfig) (wholly : Bool) (x : Pump) : Pump :=
  if x.latch then x
  else match x.state, wholly with
    | .active, true => x.toRemap k
    | .probe, true => x.toRemap k
    | .floor, false => x.toActive k
    | .off, false => x.toActive k
    | _, _ => x

/-- The pump in PROBE, if any; there is at most one (R139). -/
def Pbc.probed (p : Pbc) : Option Nat := p.pumps.findIdx? fun x => x.state == .probe

/-- A probe on a pump that is wholly bypassed ends without a result (R136, R141, R156). -/
def State.endRemappedProbe (s : State) : State :=
  match s.pbc.probed with
  | some j => if s.pbc.whollyBypassed s.cfg j then s.probeTaken j else s
  | none => s

/-- R136 for every pump, and the targets with it (R132). -/
def Pbc.remap (p : Pbc) (c : Commissioning) (now : Moment) : Pbc :=
  Pbc.retarget { p with pumps := p.pumps.mapIdx fun j x => x.remap (c.pump j) (p.whollyBypassed c j) } c now

/-- R136: every pump examined after a change of a bypass latch. -/
def State.remap (s : State) : State :=
  let s1 := s.endRemappedProbe
  { s1 with pbc := s1.pbc.remap s.cfg s.now }

/-! ## Amplifier isolation (R135) -/

/-- The grant of the bypass of amplifier `a` that is not yet bypassed: switch and latch set, remap examined, the AMP entry
latched in the same event (R121), the ISOLATED condition reported. -/
def State.bypass (s : State) (a : Nat) (kind : AmpKind) : State :=
  let s1 :=
    { s with
      pbc := { s.pbc with bypass := s.pbc.bypass.set a true, switches := s.pbc.switches.set a true }
      flt := { s.flt with amps := s.flt.amps.modify a (AmpEntry.grant s.cfl.clock kind) } }
  s1.remap.report

/-- AMP_ISOLATION_REQUEST (R135). -/
def execAmpIsolationRequest (s : State) : Host.Outcome State Fault Refusal :=
  match s.pbc.isolations with
  | .amp a kind :: rest =>
    let s1 := { s with pbc := { s.pbc with isolations := rest } }
    if s.cfg.isSupervisory a then .next s1
    else if s.pbc.bypassed a then .next s1
    else .next (s1.bypass a kind)
  | _ => .next s

/-! ## Pump isolation (R137) -/

/-- Pump `j` is the one pump feeding amplifier `a` that is not OFF. -/
def Pbc.lastFeeding (p : Pbc) (c : Commissioning) (j a : Nat) : Bool :=
  (p.feeders c a).filter (fun i => p.isIn i [.active, .probe, .floor]) == [j]

/-- R137: the request is refused. -/
def State.mustKeep (s : State) (j : Nat) : Bool :=
  s.pbc.lastFeeding s.cfg j (s.cfg.supAmp .e) || s.pbc.lastFeeding s.cfg j (s.cfg.supAmp .w)

/-- The isolation latch of pump `j`. -/
def Pbc.latched (p : Pbc) (j : Nat) : Bool := p.pumps[j]?.any Pump.latch

/-- The grant of the isolation of pump `j`, not yet latched: a probe on it ends without a result (R141, R156), it goes
OFF with its latch set, the targets follow, the PUMP entry is latched in the same event (R121). -/
def State.isolatePump (s : State) (j : Nat) : State :=
  let s1 := if s.pbc.isIn j [.probe] then s.probeTaken j else s
  let pbc := { s1.pbc with pumps := s1.pbc.pumps.modify j fun x => { x.toOff with latch := true } }
  State.report
    { s1 with
      pbc := pbc.retarget s.cfg s.now
      flt := { s1.flt with pumps := s1.flt.pumps.modify j (PumpEntry.grant s.cfl.clock) } }

/-- PUMP_ISOLATION_REQUEST (R137). -/
def execPumpIsolationRequest (s : State) : Host.Outcome State Fault Refusal :=
  match s.pbc.isolations with
  | .pump j :: rest =>
    let s1 := { s with pbc := { s.pbc with isolations := rest } }
    if s.mustKeep j then .next s1
    else if s.pbc.latched j then .next s1
    else .next (s1.isolatePump j)
  | _ => .next s

/-! ## Steps (R133) -/

/-- STEP_TIMER_EXPIRY (R133). -/
def execStepTimerExpiry (j : Nat) (s : State) : Host.Outcome State Fault Refusal :=
  match s.pbc.pumps[j]?.bind Pump.step with
  | some d =>
    let s1 := s.reach d
    .next { s1 with pbc := { s1.pbc with pumps := s1.pbc.pumps.modify j (Pump.stepOnce (s.cfg.pump j) d) } }
  | none => .next s

/-! ## Probe drive (R139, R140, R154) -/

/-- R139: the PBC grants PROBE drive on pump `j`. -/
def State.grantsProbe (s : State) (j : Nat) : Bool :=
  s.pbc.isIn j [.active] && !s.pbc.isBusy j && s.pbc.probed.isNone

/-- R139: the drive lowered. -/
def Pump.lower (k : PumpConfig) (x : Pump) : Pump :=
  { x with state := .probe, preProbe := some x.applied, applied := max k.floor (x.applied - k.depth), step := none }

/-- R140: the drive restored; a pump no longer in PROBE has nothing to restore.  DESIGN CHOICE (log entry 23): a request
still queued from an ended probe that finds the pump in PROBE again restores it too. -/
def Pump.restore (k : PumpConfig) (now : Moment) (x : Pump) : Pump :=
  if x.state = .probe then
    Pump.ramp k now { x with state := .active, applied := x.preProbe.getD x.applied, preProbe := none }
  else x

/-- The PRU enters PROBING on a grant (R154): flag, window timer, rotation pointer, and the collision test of R157 at
once on both neighbours. -/
def State.enterProbing (s : State) (pr : Probe) : State :=
  let s1 :=
    { s with
      pru :=
        { s.pru with
          state := .probing pr (s.now + s.cfg.windowMs)
          rotation := if pr.source = ProbeSource.scheduled then (pr.pump + 1) % s.cfg.m else s.pru.rotation } }
  ((s1.collisionTest (s.cfg.position - 1)).collisionTest (s.cfg.position + 1)).report

/-- The PRU acts on the PBC's answer to the request `r` (R154).  A stale request finds the PRU as if IDLE (log entry 7). -/
def State.takeAnswer (s : State) (r : DriveRequest) (granted : Bool) : State :=
  match s.pru.state, r.stale with
  | .starting pr, false =>
    if granted then s.enterProbing pr else s.abortProbe pr
  | _, _ =>
    if granted then
      State.askRestore { s with flt := s.flt.startSettle s.cfg s.now r.pump } ⟨r.pump, none⟩
    else s

/-- PROBE_DRIVE_REQUEST (R139, R154). -/
def execProbeDriveRequest (s : State) : Host.Outcome State Fault Refusal :=
  match s.pbc.driveRequests with
  | r :: rest =>
    let s1 := { s with pbc := { s.pbc with driveRequests := rest } }
    if s.grantsProbe r.pump then
      .next (State.takeAnswer
        { s1 with pbc := { s1.pbc with pumps := s1.pbc.pumps.modify r.pump (Pump.lower (s.cfg.pump r.pump)) } } r true)
    else .next (s1.takeAnswer r false)
  | [] => .next s

/-- RESTORE_REQUEST (R140). -/
def execRestoreRequest (s : State) : Host.Outcome State Fault Refusal :=
  match s.pbc.restores with
  | r :: rest =>
    .next
      { s with
        pbc :=
          { s.pbc with
            restores := rest
            pumps := s.pbc.pumps.modify r.pump (Pump.restore (s.cfg.pump r.pump) s.now) } }
  | [] => .next s

/-! ## The Demand List (R142, R143) -/

/-- The position from which an entry of each reason is drawn (R142). -/
def demandPos (p a : Nat) : DemandReason → Nat
  | .upstreamBypassed => upstreamPos p a
  | .downstreamBypassed => downstreamPos p a

/-- What becomes of the entry (a, r) on an announcement for the position it is drawn from (R143). -/
def demandUpdate (rs : List Neighbour) (q : Nat) (d : Demand) (ds : List Demand) : List Demand :=
  match standing rs q with
  | .fresh =>
    match ampEntryAt rs q d.amp d.amp with
    | some e =>
      if e.state = .bypassed then (if d ∈ ds then ds else ds ++ [d]) else ds.filter (· != d)
    | none => ds.filter (· != d)
  | .stale => ds
  | .absent => ds.filter (· != d)
  | .vacant => ds

/-- The entries drawn from the record at position `q`, one or two for each own amplifier. -/
def demandsFrom (c : Commissioning) (q : Nat) : List Demand :=
  ((List.range c.ampCount).flatMap fun a => [Demand.mk a .upstreamBypassed, Demand.mk a .downstreamBypassed]).filter
    fun d => demandPos c.position d.amp d.reason == q

/-- R143: the Demand List re-examined on an announcement for position `q`, and the targets with it. -/
def Pbc.hear (p : Pbc) (c : Commissioning) (now : Moment) (rs : List Neighbour) (q : Nat) : Pbc :=
  Pbc.retarget { p with demands := (demandsFrom c q).foldl (fun ds d => demandUpdate rs q d ds) p.demands } c now

/-! ## RELEASE (R145) -/

/-- A pump released: its latch clear, and out of FLOOR or OFF (R145, steps 2 and 3). -/
def Pump.released (k : PumpConfig) (x : Pump) : Pump :=
  match x.state with
  | .floor | .off => { x.toActive k with latch := false }
  | _ => { x with latch := false }

/-- R145 with R124: every latched bypass and pump released, no pump left remapped, targets recomputed, and the entries of
what was released cleared. -/
def State.release (s : State) : State :=
  let bypass := s.pbc.bypass
  let pumps := s.pbc.pumps
  State.report
    { s with
      pbc := Pbc.retarget
        { s.pbc with
          bypass := bypass.map fun _ => false
          switches := s.pbc.switches.mapIdx fun a set => set && !bypass.getD a false
          pumps := pumps.mapIdx fun j x => x.released (s.cfg.pump j) }
        s.cfg s.now
      flt :=
        { s.flt with
          amps := s.flt.amps.mapIdx fun a e => if bypass.getD a false then e.release s.cfl.clock else e
          pumps := s.flt.pumps.mapIdx fun j e =>
            if pumps[j]?.any Pump.latch then e.release s.cfl.clock else e } }

/-! ## Starts (R147, R148) -/

/-- Pump `j` when the configuration becomes VALID: ACTIVE at its floor. -/
def Pump.start (k : PumpConfig) : Pump :=
  { state := .active, target := k.floor, applied := k.floor, latch := false, preProbe := none, step := none }

/-- R147: control of every pump and switch taken. -/
def Pbc.start (p : Pbc) (c : Commissioning) (now : Moment) : Pbc :=
  Pbc.retarget
    { p with
      pumps := c.pumps.map Pump.start
      bypass := List.replicate c.ampCount false
      switches := List.replicate 8 false
      demands := [] }
    c now

/-- R148 for one pump: a probe ended, latched and remapped pumps kept, the warm policy taken, the step timer stopped. -/
def Pump.warm (k : PumpConfig) (x : Pump) : Pump :=
  match x.state with
  | .active => { x with applied := if k.retain then x.applied else k.base, step := none }
  | .probe =>
    { x with state := .active, applied := if k.retain then x.preProbe.getD x.applied else k.base, preProbe := none,
             step := none }
  | _ => { x with step := none }

/-- R148.  Requests of the PRU still on their way are marked as made before the restart (R154). -/
def Pbc.warm (p : Pbc) (c : Commissioning) (now : Moment) : Pbc :=
  Pbc.retarget
    { p with
      demands := []
      pumps := p.pumps.mapIdx fun j x => x.warm (c.pump j)
      driveRequests := p.driveRequests.map fun r => { r with stale := true } }
    c now

end Sys2Proof.Machine
end

