-- ==== Sys2Proof/Machine/Queue.lean ====
section
/-! DEFINITION. The Record Queue and the attention causes (R180 to R187). -/

namespace Sys2Proof.Machine

/-! ## Severity (R182) -/

def Presence.severity : Presence → Severity
  | .silent | .isolated => .critical
  | .alarm => .major
  | .nominal | .probing => .info

def AmpState.severity : AmpState → Severity
  | .bypassed => .critical
  | .unpumped => .major
  | .normal | .compensating => .info

def SpanVerdict.severity : SpanVerdict → Severity
  | .lossOfLight | .cable => .critical
  | .fibre | .unpaired | .silentNeighbour => .major
  | .clear | .suspect | .unknown => .info

def Verdict.severity : Verdict → Severity
  | .faulty => .major
  | .clear | .suspect | .unknown => .info

def PumpState.severity : PumpState → Severity
  | .off => .critical
  | .active | .probe | .floor => .info

/-- R182: from the kind and the new value. -/
def Change.severity : Change → Severity
  | .presence _ new => new.severity
  | .ampState _ _ new => new.severity
  | .spanVerdict _ _ new => new.severity
  | .gainVerdict _ _ new => new.severity
  | .pumpState _ _ new => new.severity
  | .pumpVerdict _ _ new => new.severity
  | .directive _ _ => .info

/-! ## Store and loss (R183, R185) -/

def Causes.union (x y : Causes) : Causes :=
  { recordTimer := x.recordTimer || y.recordTimer, absoluteTimer := x.absoluteTimer || y.absoluteTimer,
    critical := x.critical || y.critical, lowSpace := x.lowSpace || y.lowSpace, overrun := x.overrun || y.overrun }

/-- Causes raised: they join the pending set and both timers stop (R185). -/
def Tpt.raise (x : Causes) (t : Tpt) : Tpt :=
  { t with causes := t.causes.union x, recordTimer := none, absoluteTimer := none }

/-- The causes that a store raises, `count` being the queue count after it (R185). -/
def storeCauses (c : Commissioning) (sev : Severity) (count : Nat) : Causes :=
  { Causes.empty with
    recordTimer := c.tq == 0
    critical := sev == .critical
    lowSpace := c.lowSpace != 0 && decide (Config.queueRoom - count ≤ c.lowSpace) }

/-- What a store does to the causes and the timers (R185).  DESIGN CHOICE (log entry 29): a store that raises a cause, taken
first at the moment at which the absolute timer would expire, stops that timer as the rule's table says, and ABSOLUTE_TIMER is
not raised; the rule's last sentence says that it is raised in both orders. -/
def Tpt.attend (c : Commissioning) (now : Moment) (x : Causes) (t : Tpt) : Tpt :=
  if x.any then t.raise x
  else if t.causes.any then t
  else
    { t with
      recordTimer := some (now + Config.recordUnit * c.tq)
      absoluteTimer := some (t.absoluteTimer.getD (now + 4 * (Config.recordUnit * c.tq))) }

/-- A loss count, saturating at 255 (R183). -/
def bumpLoss (x : Nat) : Nat := min 255 (x + 1)

/-- R183: an offered record is stored at the newest end, or dropped when the queue is full. -/
def Tpt.offer (c : Commissioning) (now : Moment) (clock origin : Nat) (change : Change) (t : Tpt) : Tpt :=
  if t.queue.length < Config.queueRoom then
    Tpt.attend c now (storeCauses c change.severity (t.queue.length + 1))
      { t with queue := t.queue ++ [⟨origin, change, change.severity, clock, t.gap⟩], gap := 0 }
  else
    Tpt.raise { Causes.empty with overrun := true }
      { t with overrun := bumpLoss t.overrun, gap := bumpLoss t.gap }

/-- The producers offer records in the TERMINAL role, while the configuration is VALID (R181). -/
def State.offerAll (s : State) (origin : Nat) (changes : List Change) : State :=
  if s.cfl.valid && s.cfg.role == .terminal then
    { s with tpt := changes.foldl (fun t ch => t.offer s.cfg s.now s.cfl.clock origin ch) s.tpt }
  else s

/-! ## Timers (R185) -/

/-- RECORD_TIMER_EXPIRY (R185). -/
def execRecordTimerExpiry (s : State) : Host.Outcome State Fault Refusal :=
  match s.tpt.recordTimer with
  | some d =>
    let s1 := s.reach d
    .next { s1 with tpt := s1.tpt.raise { Causes.empty with recordTimer := true } }
  | none => .next s

/-- ABSOLUTE_TIMER_EXPIRY (R185). -/
def execAbsoluteTimerExpiry (s : State) : Host.Outcome State Fault Refusal :=
  match s.tpt.absoluteTimer with
  | some d =>
    let s1 := s.reach d
    .next { s1 with tpt := s1.tpt.raise { Causes.empty with absoluteTimer := true } }
  | none => .next s

end Sys2Proof.Machine
end

