-- ==== Sys2Proof/Machine/Table.lean ====
section
/-! DEFINITION. The Observation Table: records created, replaced, aged and removed, and the announcements to the users
(chapter 5). -/

namespace Sys2Proof.Machine

/-! ## Comparison (R74) -/

def ampChanges (a : Nat) (old new : FrameAmp) : List Change :=
  (if old.state = new.state then [] else [.ampState a old.state new.state]) ++
  (if old.span = new.span then [] else [.spanVerdict a old.span new.span]) ++
  (if old.gain = new.gain then [] else [.gainVerdict a old.gain new.gain])

def pumpChanges (j : Nat) (old new : FramePump) : List Change :=
  (if old.state = new.state then [] else [.pumpState j old.state new.state]) ++
  (if old.verdict = new.verdict then [] else [.pumpVerdict j old.verdict new.verdict])

/-- The change list of a frame that replaces contents, in the order of R74. -/
def frameChanges (old new : Frame) : List Change :=
  ((old.amps.zip new.amps).mapIdx fun a e => ampChanges a e.1 e.2).flatten ++
  ((old.pumps.zip new.pumps).mapIdx fun j e => pumpChanges j e.1 e.2).flatten

/-! ## Records -/

/-- A new VACANT record (R72). -/
def Neighbour.vacant (now : Moment) (b : Bank) (q : Nat) : Neighbour :=
  { origin := q, bank := b, freshness := .vacant, age := 0, since := now, contents := none }

/-- A record replaced by an accepted frame (R73). -/
def Neighbour.replace (now : Moment) (f : Frame) (r : Neighbour) : Neighbour :=
  { r with freshness := .fresh, age := 0, since := now, contents := some f }

/-- The record of origin `q` changed by `g`; no two records share an origin (R71). -/
def updateRecord (q : Nat) (g : Neighbour → Neighbour) (rs : List Neighbour) : List Neighbour :=
  rs.map fun r => if r.origin = q then g r else r

/-! ## Announcements (R79) -/

/-- A REPLACED, STALED or REMOVED announcement for position `q` reaches the PBC, which re-examines the Demand List
(R143). -/
def State.tellPbc (s : State) (q : Nat) : State :=
  { s with pbc := s.pbc.hear s.cfg s.now s.records q }

/-- A REPLACED or STALED announcement reaches the FLT's quiet-until items (R95). -/
def State.tellFlt (s : State) (q : Nat) : State :=
  { s with flt := s.flt.hear s.cfg s.now s.records q }

/-- A REPLACED announcement of p-1 or p+1 reaches the PRU's collision test (R157). -/
def State.tellPru (s : State) (q : Nat) : State :=
  if q = s.cfg.position - 1 ∨ q = s.cfg.position + 1 then s.collisionTest q else s

/-- A record created for a tracker's new position (R72).  CREATED changes nothing in its users (R95, R143). -/
def State.createRecord (s : State) (b : Bank) (q : Nat) : State :=
  { s with records := s.records ++ [Neighbour.vacant s.now b q] }

/-- A record removed with its tracker's assignment, and announced REMOVED (R78, R79). -/
def State.removeRecord (s : State) (q : Nat) : State :=
  State.tellPbc { s with records := s.records.filter fun r => r.origin != q } q

/-- The changes that a frame offers to the TPT: none when it fills a VACANT record (R74). -/
def changesFor (rs : List Neighbour) (f : Frame) : List Change :=
  match (findRecord rs f.origin).bind Neighbour.contents with
  | some old => frameChanges old f
  | none => []

/-- REPLACED goes to the users: the FLT, the PBC and the PRU (R79). -/
def State.announceReplaced (s : State) (q : Nat) : State := ((s.tellFlt q).tellPbc q).tellPru q

/-- An accepted frame replaces its origin's record, and REPLACED goes to the users (R73, R79). -/
def State.replaceRecord (s : State) (f : Frame) : State :=
  let s1 := { s with records := updateRecord f.origin (Neighbour.replace s.now f) s.records }
  (s1.announceReplaced f.origin).offerAll f.origin (changesFor s.records f)

/-- One age step (R75), and STALE when the age first exceeds 10 x L (R76). -/
def Neighbour.tick (limit : Nat) (r : Neighbour) : Neighbour :=
  let age := min Config.ageMax (r.age + 1)
  { r with age := age, freshness := if r.freshness = .fresh ∧ 10 * limit < age then .stale else r.freshness }

/-- The moment at which the age of `r` next advances (R75). -/
def Neighbour.nextTick (r : Neighbour) : Moment := r.since + Config.ageStep * (r.age + 1)

/-- RECORD_AGE_TICK (R75, R76).  A saturated age stays (R75). -/
def execRecordAgeTick (q : Byte) (s : State) : Host.Outcome State Fault Refusal :=
  match findRecord s.records q.toNat with
  | some r =>
    if r.age < Config.ageMax then
      let s1 := s.reach r.nextTick
      let s2 := { s1 with records := updateRecord q.toNat (Neighbour.tick s.cfg.stale) s1.records }
      if r.freshness = .fresh ∧ standing s2.records q.toNat = .stale then .next ((s2.tellFlt q.toNat).tellPbc q.toNat)
      else .next s2
    else .next s
  | none => .next s

end Sys2Proof.Machine
end

