-- ==== Sys2Proof/Machine/Banks.lean ====
section
/-! DEFINITION. The receive banks: bank states, dark watch, the sweep, the Presence Map, and the assignment of trackers
(chapter 3, R55 to R59). -/

namespace Sys2Proof.Machine

/-! ## The sweep (R40) -/

/-- The positions of a bank's side in sweep order: RBE 1 to p-1 ascending, RBW 254 to p+1 descending. -/
def sidePositions (p : Nat) : Bank → List Nat
  | .e => (List.range (p - 1)).map fun i => i + 1
  | .w => (List.range (Config.lastPosition - p)).map fun i => Config.lastPosition - i

/-- The first position of a sweep; none for a bank that has no side. -/
def firstPosition (p : Nat) (b : Bank) : Option Nat := (sidePositions p b).head?

/-- The position after `q` in a sweep; none after the last. -/
def nextPosition (p q : Nat) : Bank → Option Nat
  | .e => if q + 1 < p then some (q + 1) else none
  | .w => if p + 1 < q then some (q - 1) else none

/-- A new sweep begun at `now` (R40). -/
def RxBank.beginSweep (p : Nat) (b : Bank) (now : Moment) (x : RxBank) : RxBank :=
  { x with sweep := saturate32 (x.sweep + 1), dwell := (firstPosition p b).map fun q => ⟨q, now + Config.dwell⟩ }

/-- The sweep moves on from the dwell at `q` that ended at `now`, without a gap (R40). -/
def RxBank.moveOn (p : Nat) (b : Bank) (now : Moment) (q : Nat) (x : RxBank) : RxBank :=
  match nextPosition p q b with
  | some q' => { x with dwell := some ⟨q', now + Config.dwell⟩ }
  | none => x.beginSweep p b now

/-! ## Trackers (R48) -/

/-- ACQUIRING afresh: the count 0, the sync timer stopped, hunting in the bits still to come (R48, R49).  DESIGN CHOICE (log
entry 8): the bits received before and not yet worked on, `ahead`, are dropped; R37 and R53 name no bit. -/
def Tracker.acquire (t : Tracker) : Tracker :=
  { t with state := .acquiring, failed := 0, sync := none, reception := .hunting, ahead := [] }

/-- IDLE with no assigned position; a frame being read is abandoned (R48, R58). -/
def Tracker.free (t : Tracker) : Tracker :=
  { t with state := .idle, pos := none, failed := 0, sync := none, reception := .hunting, ahead := [] }

/-- Assigned to position `q` (R59). -/
def Tracker.assign (q : Nat) (t : Tracker) : Tracker := { t.acquire with pos := some q }

def Tracker.isIdle (t : Tracker) : Bool := t.state == .idle

/-! ## Dark watch (R36 to R38) -/

def MapEntry.darken (e : MapEntry) : MapEntry := { e with held := true, pending := none }
def MapEntry.wake (e : MapEntry) : MapEntry := { e with held := false }

/-- Entry to DARK_WATCH (R37): the dwell abandoned, the map HELD, every assigned tracker in ACQUIRING with any frame
being read abandoned (R53).  DESIGN CHOICE (log entry 8): a tracker that was ACQUIRING and hunting already starts afresh too,
and hunts in the bits received from the entry on. -/
def RxBank.enterDark (x : RxBank) : RxBank :=
  { x with
    state := .darkWatch, dwell := none, confirm := none
    map := x.map.map MapEntry.darken
    trackers := x.trackers.map fun t => if t.isIdle then t else t.acquire }

/-- A class-change event of the bank's supervisory input (R36). -/
def RxBank.hearClass (now : Moment) (cls : LightClass) (x : RxBank) : RxBank :=
  match x.state with
  | .idle => x
  | .running => if cls = .dark then x.enterDark else x
  | .darkWatch => if cls = .dark then x else { x with state := .wakePending, confirm := some (now + Config.confirmation) }
  | .wakePending => if cls = .dark then { x with state := .darkWatch, confirm := none } else x

/-- The wake (R38): HELD cleared, a new sweep, the trackers resume hunting.  DESIGN CHOICE (log entry 8): a tracker then
reading a frame leaves it and hunts on in the bits at hand after that frame's sync, not from the sync's second bit; R38 and
R53 name no bit. -/
def RxBank.wake (p : Nat) (b : Bank) (now : Moment) (x : RxBank) : RxBank :=
  RxBank.beginSweep p b now
    { x with
      state := .running, confirm := none
      map := x.map.map MapEntry.wake
      trackers := x.trackers.map fun t => { t with reception := .hunting } }

/-! ## Starts (R35, R47) -/

/-- An entry of a map just reset (R47). -/
def MapEntry.reset (q : Nat) : MapEntry := { pos := q, confirmed := .silent, pending := none, lastChange := 0, held := false }

/-- The state a bank takes from the class of its input, at VALID and at a warm restart (R35, R47): DARK_WATCH with every
entry HELD, or RUNNING with a new sweep. -/
def RxBank.fromClass (p : Nat) (b : Bank) (now : Moment) (dark : Bool) (x : RxBank) : RxBank :=
  let y := { x with map := (sidePositions p b).map MapEntry.reset, dwell := none, confirm := none }
  if dark then { y with state := .darkWatch, map := y.map.map MapEntry.darken }
  else RxBank.beginSweep p b now { y with state := .running }

/-! ## The Presence Map (R43) -/

/-- The observed class applied to an entry; the present sweep number dates a confirmed change. -/
def MapEntry.observe (sweep : Nat) (o : Presence) (e : MapEntry) : MapEntry :=
  if o = e.confirmed then { e with pending := none }
  else if e.pending = some o then { e with confirmed := o, pending := none, lastChange := sweep }
  else { e with pending := some o }

def findEntry (map : List MapEntry) (q : Nat) : Option MapEntry := map.find? fun e => e.pos == q

/-! ## Pinned positions (R55) -/

/-- The three candidates of a bank, in order. -/
def pinCandidates (c : Commissioning) : Bank → List Nat
  | .e => [c.position - 1, c.position - 2, c.west]
  | .w => [c.position + 1, c.position + 2, c.east]

/-- A candidate that is not dropped for its place: within 1 to 254, on the bank's side, within the line. -/
def pinnable (c : Commissioning) (b : Bank) (q : Nat) : Bool :=
  decide (1 ≤ q) && decide (q ≤ Config.lastPosition) && (sidePositions c.position b).contains q && decide (c.west ≤ q) &&
    decide (q ≤ c.east)

/-- The pinned positions, in the order kept. -/
def pinnedPositions (c : Commissioning) (b : Bank) : List Nat :=
  (pinCandidates c b).foldl (fun kept q => if pinnable c b q && !kept.contains q then kept ++ [q] else kept) []

/-- Tracker number `i` when the configuration becomes VALID (R55). -/
def Tracker.start (pinned : List Nat) (i : Nat) : Tracker :=
  match pinned[i]? with
  | some q => Tracker.assign q { Tracker.cold with kind := some .pinned }
  | none => { Tracker.cold with kind := some .capture }

/-- The warm restart of a tracker (R66).  DESIGN CHOICE (log entry 8): the bits received before and not yet worked on are
dropped, and a pinned tracker hunts in those received from the restart on. -/
def Tracker.warm (t : Tracker) : Tracker :=
  match t.kind with
  | some .pinned => t.acquire
  | _ => t.free

/-- A bank when the configuration becomes VALID (R35, R45, R55).  A TERMINAL station's outbound bank stays IDLE with its
map in the reset state, and its six trackers join the inbound bank. -/
def RxBank.start (c : Commissioning) (b : Bank) (now : Moment) (l : Lmu) (x : RxBank) : RxBank :=
  if c.isOutbound b then { x with map := (sidePositions c.position b).map MapEntry.reset, trackers := [] }
  else
    let count := if c.role = .terminal then 2 * Config.trackersPerBank else Config.trackersPerBank
    RxBank.fromClass c.position b now (l.isDark (c.supAmp b))
      { x with trackers := (List.range count).map (Tracker.start (pinnedPositions c b)) }

/-- The warm restart of a bank (R47, R66); an IDLE bank stays IDLE. -/
def RxBank.warm (c : Commissioning) (b : Bank) (now : Moment) (l : Lmu) (x : RxBank) : RxBank :=
  let y := { x with trackers := x.trackers.map Tracker.warm }
  if x.state = .idle then y else y.fromClass c.position b now (l.isDark (c.supAmp b))

/-! ## Capture (R56 to R59) -/

def RxBank.isPinned (x : RxBank) (q : Nat) : Bool := x.trackers.any fun t => t.kind == some .pinned && t.pos == some q
def RxBank.isCaptured (x : RxBank) (q : Nat) : Bool := x.trackers.any fun t => t.kind == some .capture && t.pos == some q

def Presence.alarming : Presence → Bool
  | .alarm | .isolated => true
  | _ => false

/-- R56: position `q` is on the bank's side, is not pinned, lies in a sector of interest, and is confirmed ALARM or
ISOLATED. -/
def RxBank.eligible (c : Commissioning) (x : RxBank) (q : Nat) : Bool :=
  (findEntry x.map q).any (fun e => e.confirmed.alarming) && !x.isPinned q && c.interested q

def distance (p q : Nat) : Nat := (p - q) + (q - p)

/-- The nearest of some positions. -/
def nearestOf (p : Nat) (qs : List Nat) : Option Nat :=
  qs.foldl (fun best q => match best with
    | none => some q
    | some x => if distance p q < distance p x then some q else some x) none

/-- The nearest eligible position that is not captured. -/
def RxBank.nearestFree (c : Commissioning) (x : RxBank) : Option Nat :=
  nearestOf c.position ((x.map.map MapEntry.pos).filter fun q => x.eligible c q && !x.isCaptured q)

/-- The lowest-numbered IDLE CAPTURE tracker. -/
def RxBank.idleCapture (x : RxBank) : Option Nat :=
  x.trackers.findIdx? fun t => t.kind == some .capture && t.isIdle

/-- The farthest captured position. -/
def RxBank.farthestCapture (p : Nat) (x : RxBank) : Option Nat :=
  (x.trackers.filterMap fun t => if t.kind = some .capture then t.pos else none).foldl
    (fun best q => match best with
      | none => some q
      | some y => if distance p y < distance p q then some q else some y) none

/-- What the capture policy does to the records of the OBT, step by step (R59). -/
inductive CaptureStep where
  | created (q : Nat)
  | removed (q : Nat)
  deriving DecidableEq, Repr

/-- The fill step (R57): at most one assignment for each unit of fuel, and no more than the trackers there are. -/
def fillStep (c : Commissioning) : Nat → RxBank → RxBank × List CaptureStep
  | 0, x => (x, [])
  | fuel + 1, x =>
    match x.idleCapture, x.nearestFree c with
    | some i, some q =>
      let y := fillStep c fuel { x with trackers := x.trackers.modify i (Tracker.assign q) }
      (y.1, .created q :: y.2)
    | _, _ => (x, [])

/-- The evict step (R57, R59). -/
def evictStep (c : Commissioning) : Nat → RxBank → RxBank × List CaptureStep
  | 0, x => (x, [])
  | fuel + 1, x =>
    match x.idleCapture, x.nearestFree c, x.farthestCapture c.position with
    | none, some q, some far =>
      if distance c.position q < distance c.position far then
        let y := evictStep c fuel
          { x with
            trackers := x.trackers.map fun t =>
              if t.kind = some .capture ∧ t.pos = some far then t.assign q else t }
        (y.1, .removed far :: .created q :: y.2)
      else (x, [])
    | _, _, _ => (x, [])

/-- The capture policy (R57): fill, then evict. -/
def capturePolicy (c : Commissioning) (x : RxBank) : RxBank × List CaptureStep :=
  let filled := fillStep c x.trackers.length x
  let evicted := evictStep c x.trackers.length filled.1
  (evicted.1, filled.2 ++ evicted.2)

/-- The release of a capture on a position whose class is no longer ALARM or ISOLATED (R58). -/
def RxBank.releaseCapture (x : RxBank) (q : Nat) : RxBank × List CaptureStep :=
  if x.isCaptured q then
    ({ x with trackers := x.trackers.map fun t => if t.kind = some .capture ∧ t.pos = some q then t.free else t },
      [.removed q])
  else (x, [])

/-- Tracker capture on a presence-change event (R44, R57, R58). -/
def RxBank.recapture (c : Commissioning) (q : Nat) (new : Presence) (x : RxBank) : RxBank × List CaptureStep :=
  let released := if new.alarming then (x, []) else x.releaseCapture q
  let policy := capturePolicy c released.1
  (policy.1, released.2 ++ policy.2)

/-- The records of the OBT follow the captures (R72, R78). -/
def State.followCaptures (s : State) (b : Bank) (steps : List CaptureStep) : State :=
  steps.foldl (fun s step => match step with
    | .created q => s.createRecord b q
    | .removed q => s.removeRecord q) s

/-- A presence-change event of bank `b` for position `q` (R44). -/
def State.presenceChange (s : State) (b : Bank) (q : Nat) (old new : Presence) : State :=
  let captured := (s.bank b).recapture s.cfg q new
  ((s.setBank b captured.1).followCaptures b captured.2).offerAll q [.presence old new]

/-! ## The meanings -/

/-- CONFIRMATION_TIMER_EXPIRY (R38). -/
def execConfirmationTimerExpiry (b : Bank) (s : State) : Host.Outcome State Fault Refusal :=
  match (s.bank b).state, (s.bank b).confirm with
  | .wakePending, some d =>
    let s1 := s.reach d
    .next (s1.setBank b ((s1.bank b).wake s.cfg.position b s1.now))
  | _, _ => .next s

/-- The observed class applied to the entry of the position visited (R43). -/
def RxBank.observeAt (q : Nat) (o : Presence) (x : RxBank) : RxBank :=
  { x with map := x.map.map fun e => if e.pos = q then MapEntry.observe x.sweep o e else e }

/-- The change of confirmed class that an observation at position `q` confirms, if it confirms one (R43, R44). -/
def RxBank.confirms (q : Nat) (o : Presence) (x : RxBank) : Option Presence :=
  (findEntry x.map q).bind fun e => if o ≠ e.confirmed ∧ e.pending = some o then some e.confirmed else none

/-- DWELL_COMPLETE (R40, R41, R43, R44). -/
def execDwellComplete (b : Bank) (d : Depths) (s : State) : Host.Outcome State Fault Refusal :=
  match (s.bank b).state, (s.bank b).dwell with
  | .running, some w =>
    let x := s.bank b
    let o := observedClass d
    let s1 := (s.reach w.ends).setBank b ((x.observeAt w.pos o).moveOn s.cfg.position b w.ends w.pos)
    match x.confirms w.pos o with
    | some old => .next (s1.presenceChange b w.pos old o)
    | none => .next s1
  | _, _ => .next s

end Sys2Proof.Machine
end

