-- ==== Sys2Proof/Machine/Directives.lean ====
section
/-! DEFINITION. The Directive Filter, and the execution of RELEASE, REREFERENCE and RESTART (R61 to R64, R125, R127, R145,
R148, R160, R171, R173). -/

namespace Sys2Proof.Machine

/-! ## REREFERENCE (R171, R125) -/

/-- The references of amplifier `a` renewed from the present values. -/
def State.renewed (s : State) (a : Nat) (r : References) : References :=
  { gref := s.gain a
    oref := s.lmu.sOut a
    lref := if s.basisOf a = .direct then (s.spanLoss a).getD r.lref else r.lref
    lskip := if s.basisOf a = .bridged then (s.spanLoss a).getD r.lskip else r.lskip }

/-- The Suspect Table cleared by a REREFERENCE (R125). -/
def Flt.clearForRereference (clock : Nat) (l : Lmu) (f : Flt) : Flt :=
  { f with
    spans := f.spans.mapIdx fun a e =>
      if e.kind = .lossOfLight ∧ l.isDark a = true then e else SpanEntry.cleared clock e
    amps := f.amps.map (AmpEntry.cleared clock)
    pumps := f.pumps.map (PumpEntry.cleared clock) }

def State.rereference (s : State) : State :=
  let flt := s.flt.clearForRereference s.cfl.clock s.lmu
  State.report { s with flt := { flt with refs := s.flt.refs.mapIdx s.renewed } }

/-! ## RESTART (R173) -/

/-- R127 and R85: unlatched entries cleared, latched ones restored, marks and loss of light from the present classes, the
epoch timer started again. -/
def Flt.warm (clock : Nat) (now : Moment) (l : Lmu) (f : Flt) : Flt :=
  Flt.takeClasses clock l
    { f with
      epoch := some (now + Config.firstEpoch)
      spans := f.spans.map fun e => { SpanEntry.cleared clock e with basis := .none }
      amps := f.amps.map fun e => (AmpEntry.cleared clock e).restored
      pumps := f.pumps.map fun e => (PumpEntry.cleared clock e).restored }

/-- The interval timer started from a full interval, unless the interval is 0 (R152, R160). -/
def intervalTimer (c : Commissioning) (now : Moment) : Timer :=
  if c.interval = 0 then none else some (now + 1000 * c.interval)

/-- R160: the probe ended, the round and the pending start cancelled, the interval timer restarted, the pointer kept. -/
def Pru.warm (c : Commissioning) (now : Moment) (p : Pru) : Pru :=
  { p with state := .idle, scheduled := false, round := none, gap := none, interval := intervalTimer c now }

/-- The pump of a probe in STARTING or PROBING. -/
def Pru.current (p : Pru) : Option Probe :=
  match p.state with
  | .idle => none
  | .starting x => some x
  | .probing x _ => some x

/-- The VACANT records of a bank's pinned positions (R66, R72). -/
def RxBank.pinnedRecords (now : Moment) (b : Bank) (x : RxBank) : List Neighbour :=
  x.trackers.filterMap fun t =>
    if t.kind = some .pinned then t.pos.map (Neighbour.vacant now b) else none

/-- The frames that the trackers of a bank are reading, while it is RUNNING. -/
def RxBank.readings (b : Bank) (x : RxBank) : List CutFrame :=
  if x.state = .running then
    (List.range x.trackers.length).filterMap fun i =>
      match x.trackers[i]? with
      | some k => if k.reception = .reading then some ⟨b, i, k.ahead⟩ else none
      | none => none
  else []

/-- A warm restart of every block, as one event (R173).  The LMU, the filter, the TPT and the frame in progress are kept.
The frames being read are abandoned (R66); they are noted for those that complete at this same moment (R64). -/
def State.warmRestart (s : State) : State :=
  let c := s.cfg
  let rbe := s.rbe.warm c .e s.now s.lmu
  let rbw := s.rbw.warm c .w s.now s.lmu
  let flt := match s.pru.current with
    | some pr => s.flt.startSettle c s.now pr.pump
    | none => s.flt
  State.report
    { s with
      rbe := rbe
      rbw := rbw
      records := rbe.pinnedRecords s.now .e ++ rbw.pinnedRecords s.now .w
      flt := flt.warm s.cfl.clock s.now s.lmu
      pbc := s.pbc.warm c s.now
      pru := s.pru.warm c s.now
      restarted := some ⟨s.now, s.rbe.readings .e ++ s.rbw.readings .w⟩ }

/-! ## The filter (R62) -/

/-- The entry of an authorised origin after any directive of that origin has reached it. -/
def FilterEntry.record (d : Directive) (_ : FilterEntry) : FilterEntry := { mode := .settled, lastId := some d.id }

/-- The directive is passed for execution: the entry is SETTLED, the id is new, the kind is assigned, and the target is
the own position or 255. -/
def FilterEntry.passes (own : Nat) (d : Directive) (e : FilterEntry) : Bool :=
  e.mode == .settled && e.lastId != some d.id && d.kind != .unassigned && (d.target == own || d.target == 255)

/-- The execution of a directive (R64). -/
def State.execute (s : State) : DirectiveKind → State
  | .release => s.release
  | .rereference => s.rereference
  | .restart => s.warmRestart
  | .unassigned => s

/-- The filter's entries set. -/
def State.setFilter (s : State) (f : Filter) : State := { s with filter := f }

/-- The filter passes directive `d` of a frame from `origin` for execution. -/
def State.passes (s : State) (origin : Nat) (d : Directive) : Bool :=
  if origin = s.cfg.west then s.filter.west.passes s.cfg.position d
  else if origin = s.cfg.east then s.filter.east.passes s.cfg.position d
  else false

/-- R62: the filter decides on directive `d` of an accepted frame from `origin`.  The entry is updated before the
directive is delivered (R64). -/
def State.filterDirective (s : State) (origin : Nat) (d : Directive) : State :=
  if origin = s.cfg.west then
    let s1 := s.setFilter { s.filter with west := s.filter.west.record d }
    if s.filter.west.passes s.cfg.position d then s1.execute d.kind else s1
  else if origin = s.cfg.east then
    let s1 := s.setFilter { s.filter with east := s.filter.east.record d }
    if s.filter.east.passes s.cfg.position d then s1.execute d.kind else s1
  else s

end Sys2Proof.Machine
end

