-- ==== Sys2Proof/Machine/Reception.lean ====
section
/-! DEFINITION. Trackers at work: sync found and missing, frames checked and delivered (R49 to R54). -/

namespace Sys2Proof.Machine

/-- Tracker `i` of a bank changed by `g`. -/
def RxBank.onTracker (i : Nat) (g : Tracker → Tracker) (x : RxBank) : RxBank :=
  { x with trackers := x.trackers.modify i g }

def State.onTracker (s : State) (b : Bank) (i : Nat) (g : Tracker → Tracker) : State :=
  s.setBank b ((s.bank b).onTracker i g)

/-- The stream of bits that the tracker works on once `bits` have come in. -/
def Tracker.stream (t : Tracker) (bits : List Bool) : List Bool := t.ahead ++ bits

/-- A sync pattern found, `after` being the bits that follow it: the tracker begins reading a frame; a LOCKED tracker's
sync timer restarts (R49, R51). -/
def Tracker.foundSync (now : Moment) (after : List Bool) (t : Tracker) : Tracker :=
  { t with
    reception := .reading
    ahead := after
    sync := if t.state = .locked then some (now + Config.syncTime) else t.sync }

/-- Where the sync stands, if it is there: in the next 16 bits after an accepted frame (R51), otherwise anywhere that the
hunt comes to (R49). -/
def Tracker.findSync (stream : List Bool) (t : Tracker) : Option (List Bool) :=
  match t.reception with
  | .hunting => huntSync stream
  | .expecting => if syncAhead stream then some (stream.drop 16) else none
  | .reading => none

/-- The tracker hunts on in the bits `ahead`. -/
def Tracker.hunt (ahead : List Bool) (t : Tracker) : Tracker := { t with reception := .hunting, ahead := ahead }

/-- A failed frame, or a missing sync, of a LOCKED tracker: counted, and at the third in a row the tracker gives up; it
hunts on in the bits `ahead` (R51). -/
def Tracker.failLocked (ahead : List Bool) (t : Tracker) : Tracker :=
  Tracker.hunt ahead (if t.failed + 1 < Config.failedFrames then { t with failed := t.failed + 1 } else t.acquire)

/-- A frame that fails R50: the hunt resumes at the bit that follows the first bit of its sync (R49, R51). -/
def Tracker.failFrame (stream : List Bool) (t : Tracker) : Tracker :=
  if t.state = .locked then t.failLocked (resumeHunt stream) else t.hunt (resumeHunt stream)

/-- An accepted frame: LOCKED with the count 0; on entry to LOCKED the sync timer runs from 8 s (R49, R52); the next sync
is expected in the bits after the frame (R51). -/
def Tracker.lock (now : Moment) (after : List Bool) (t : Tracker) : Tracker :=
  { t with
    state := .locked, failed := 0, reception := .expecting, ahead := after
    sync := if t.state = .locked then t.sync else some (now + Config.syncTime) }

/-- The sync timer has expired (R52): ACQUIRING, hunting on in the bits at hand. -/
def Tracker.expire (t : Tracker) : Tracker := t.acquire.hunt t.ahead

/-- The delivery of an accepted frame (R54): the record replaced and announced, then the filter, then the execution. -/
def State.deliver (s : State) (f : Frame) : State :=
  match f.directive with
  | some d => (s.replaceRecord f).filterDirective f.origin d
  | none => s.replaceRecord f

/-! ## Two RESTARTs at the same moment (R64) -/

/-- The bits at hand of the frame that tracker `t` was reading at a warm restart of this moment, while its bank is RUNNING: on an
entry to DARK_WATCH taken since, the frame is discarded (R34, R53).  DEDUCED (log entry 28): the moment is the same while the
timebase has not moved. -/
def State.cutAt (s : State) (b : Bank) (t : Nat) : Option (List Bool) :=
  match s.restarted with
  | some r =>
    if r.moment = s.now ∧ (s.bank b).state = .running then
      (r.cut.find? fun x => x.bank == b && x.tracker == t).map CutFrame.ahead
    else none
  | none => none

/-- The frame carries a RESTART that the filter passes. -/
def State.restarts (s : State) (f : Frame) : Bool :=
  match f.directive with
  | some d => d.kind == .restart && s.passes f.origin d
  | none => false

/-- The frame of tracker `t` that the warm restart cut is settled: it is not asked about again. -/
def State.settleCut (s : State) (b : Bank) (t : Nat) : State :=
  { s with restarted := s.restarted.map fun r => { r with cut := r.cut.filter fun x => !(x.bank == b && x.tracker == t) } }

/-- An accepted RESTART `f` that completes at the moment of a warm restart and is taken second: taken `together` with the
first, it is delivered, and the station restarts again at once; otherwise it is abandoned with its id unrecorded. -/
def State.takeSecond (s : State) (b : Bank) (t : Nat) (stream : List Bool) (f : Frame) (together : Bool) : State :=
  let s1 := (s.settleCut b t).spend
  if together then (s1.onTracker b t (Tracker.lock s.now (afterFrame stream))).deliver f else s1

/-- A frame that completes at the moment of a warm restart and is taken after it: abandoned, but for a RESTART that the filter
passes: R64 has both outcomes of it, and a free value chooses (DESIGN CHOICE, log entry 28). -/
def State.takeCut (s : State) (b : Bank) (t q : Nat) (stream : List Bool) : State :=
  match acceptFrame q stream with
  | some f => if s.restarts f then s.takeSecond b t stream f (Config.restartsTogether s.spare) else s
  | none => s

/-! ## The events of a tracker -/

/-- SYNC_FOUND (R49, R51, R53).  A tracker that is not assigned, or is reading a frame, or whose bank is IDLE, hunts for
nothing; bits that hold no sync are no such event (log entry 13). -/
def execSyncFound (b : Bank) (t : Heard) (s : State) : Host.Outcome State Fault Refusal :=
  match (s.bank b).trackers[t.tracker]? with
  | some x =>
    if x.isIdle || (s.bank b).state == .idle then .next s
    else match x.findSync (x.stream t.bits) with
      | some after => .next (s.onTracker b t.tracker (Tracker.foundSync s.now after))
      | none => .next s
  | none => .next s

/-- FRAME_CHECKED (R49 to R54).  A frame read in DARK_WATCH or WAKE_PENDING is discarded, and the hunt resumes as after a
failed one (log entry 13).  A frame that a warm restart of this moment has cut is taken as R64 has it. -/
def execFrameChecked (b : Bank) (t : Nat) (bits : List Bool) (s : State) : Host.Outcome State Fault Refusal :=
  match (s.bank b).trackers[t]? with
  | some x =>
    match x.reception, x.pos with
    | .reading, some q =>
      let stream := x.stream bits
      if (s.bank b).state = .running then
        match acceptFrame q stream with
        | some f => .next ((s.onTracker b t (Tracker.lock s.now (afterFrame stream))).deliver f)
        | none => .next (s.onTracker b t (Tracker.failFrame stream))
      else .next (s.onTracker b t (Tracker.hunt (resumeHunt stream)))
    | _, some q =>
      match s.cutAt b t with
      | some ahead => .next (s.takeCut b t q (ahead ++ bits))
      | none => .next s
    | _, none => .next s
  | none => .next s

/-- SYNC_MISSING (R51): the 16 bits after an accepted frame are not the sync pattern; the hunt begins at the next bit. -/
def execSyncMissing (b : Bank) (t : Heard) (s : State) : Host.Outcome State Fault Refusal :=
  match (s.bank b).trackers[t.tracker]? with
  | some x =>
    let stream := x.stream t.bits
    if x.state = .locked ∧ x.reception = .expecting ∧ 16 ≤ stream.length ∧ syncAhead stream = false then
      .next (s.onTracker b t.tracker (Tracker.failLocked stream.tail))
    else .next s
  | none => .next s

/-- SYNC_TIMER_EXPIRY (R52). -/
def execSyncTimerExpiry (b : Bank) (t : Nat) (s : State) : Host.Outcome State Fault Refusal :=
  match (s.bank b).trackers[t]? with
  | some x =>
    match x.state, x.sync with
    | .locked, some d => .next ((s.reach d).onTracker b t Tracker.expire)
    | _, _ => .next s
  | none => .next s

end Sys2Proof.Machine
end

