-- ==== Sys2Proof/Machine/Judgement.lean ====
section
/-! DEFINITION. The judgement epoch: the six stages of the Suspect Table (R85, R105 to R123). -/

namespace Sys2Proof.Machine

/-! ## Stage 1 (R106 to R108) -/

/-- All evidence is formed from `s`, before any score changes (R85). -/
def State.stage1 (s : State) : Flt :=
  { s.flt with
    spans := s.flt.spans.mapIdx fun a e => e.scored s.cfg s.cfl.clock (s.spanResult a)
    amps := s.flt.amps.mapIdx fun a e => e.scored s.cfg s.cfl.clock (s.ampResult a) }

/-! ## Stage 2 (R111) -/

/-- Every own SPAN entry of the same direction as `a` is FAULTY. -/
def Flt.directionFaulty (f : Flt) (a : Nat) : Bool :=
  (List.range f.spans.length).all fun i => i % 2 != a % 2 || f.spans[i]?.any fun e => e.state == .faulty

/-- The kind that the partner's verdict decides (R111, last three rows). -/
def partnerKind : Option SpanVerdict → SpanKind
  | some .fibre | some .cable | some .unpaired | some .lossOfLight | some .silentNeighbour => .cable
  | some .clear | some .suspect => .fibre
  | some .unknown | none => .unpaired

/-- R111, first row that holds. -/
def SpanEntry.settle (n : Nat) (directionFaulty : Bool) (partner : Option SpanVerdict) (e : SpanEntry) : SpanEntry :=
  if e.state = .faulty ∧ e.kind ≠ .lossOfLight then
    match e.basis with
    | .none => e
    | .skipped => { e with kind := .silentNeighbour }
    | _ => if 2 ≤ n ∧ directionFaulty = true then { e with kind := .cable } else { e with kind := partnerKind partner }
  else e

def State.stage2 (s : State) (f : Flt) : Flt :=
  { f with
    spans := f.spans.mapIdx fun a e =>
      e.settle s.cfg.n (f.directionFaulty a) (partnerSpan s.records s.cfg.position a) }

/-! ## Stage 3 (R114) -/

/-- An AMP entry counts toward a wholly deficient group. -/
def AmpEntry.deficient (e : AmpEntry) : Bool :=
  e.state != .clear && (e.kind == .deficit || e.kind == .pumpAttributed)

/-- The group of pump `j` is wholly deficient: two or more members, all of them deficient. -/
def State.whollyDeficient (s : State) (f : Flt) (j : Nat) : Bool :=
  let members := (s.cfg.group j).filter fun a => !s.pbc.bypassed a
  decide (2 ≤ members.length) && members.all fun a => f.amps[a]?.any AmpEntry.deficient

/-- R114 for one PUMP entry. -/
def PumpEntry.attribute (c : Commissioning) (clock : Nat) (wholly : Bool) (e : PumpEntry) : PumpEntry :=
  if e.latch then { e with deficient := false }
  else if wholly then { e.rescore c clock (raised e.score 1) e.kind with deficient := true }
  else { e with deficient := false }

def State.stage3 (s : State) (f : Flt) : Flt :=
  { f with pumps := f.pumps.mapIdx fun j e => e.attribute s.cfg s.cfl.clock (s.whollyDeficient f j) }

/-- A deficient mark is newly set: one expedited round is asked for (R114). -/
def newlyDeficient (before after : List PumpEntry) : Bool :=
  (before.zip after).any fun e => !e.1.deficient && e.2.deficient

/-! ## Stage 4 (R117) -/

/-- A pump whose group contains `a` is SUSPECT or FAULTY, or has its deficient mark set. -/
def State.pumpSuspected (s : State) (f : Flt) (a : Nat) : Bool :=
  (s.pbc.feeders s.cfg a).any fun j => f.pumps[j]?.any fun e => e.state != .clear || e.deficient

def AmpEntry.attribute (suspected : Bool) (e : AmpEntry) : AmpEntry :=
  if !e.latch && (e.kind == .deficit || e.kind == .pumpAttributed) then
    { e with kind := if suspected then .pumpAttributed else .deficit }
  else e

def State.stage4 (s : State) (f : Flt) : Flt :=
  { f with amps := f.amps.mapIdx fun a e => e.attribute (s.pumpSuspected f a) }

/-! ## Stage 5 (R119, R120) -/

/-- R119 for one AMP entry, `deficit` being e_g of this epoch. -/
def AmpEntry.wantsIsolation (c : Commissioning) (deficit : Int) (e : AmpEntry) : Bool :=
  e.state == .faulty && !e.latch && e.kind != .pumpAttributed && c.ampIsolation &&
    (e.kind == .runaway || (e.kind == .deficit && decide ((c.ti : Int) ≤ deficit)))

/-- R120 for one PUMP entry. -/
def PumpEntry.wantsIsolation (c : Commissioning) (e : PumpEntry) : Bool :=
  e.state == .faulty && !e.latch && e.kind == .noResponse && c.pumpIsolation

/-- The requests of one epoch in the order of R120: AMP entries by ascending index, then PUMP entries. -/
def State.stage5 (s : State) (f : Flt) : List IsolationRequest :=
  (f.amps.mapIdx fun a e =>
    if e.wantsIsolation s.cfg (s.deficit a) then [IsolationRequest.amp a e.kind] else []).flatten ++
  (f.pumps.mapIdx fun j e => if e.wantsIsolation s.cfg then [IsolationRequest.pump j] else []).flatten

/-! ## The epoch -/

/-- Stages 1 to 4, in order (R105). -/
def State.judged (s : State) : Flt :=
  let f1 := s.stage1
  let f2 := s.stage2 f1
  let f3 := s.stage3 f2
  s.stage4 f3

/-- One judgement epoch on the state at its moment (R85, R105): the table judged, the requests handed to the PBC, a round
asked for where one is due, and the ALARM condition reported. -/
def State.judge (s : State) : State :=
  let f := s.judged
  let s1 := { s with flt := f, pbc := { s.pbc with isolations := s.pbc.isolations ++ s.stage5 f } }
  State.report (if newlyDeficient s.flt.pumps f.pumps then s1.requestRound else s1)

/-- JUDGEMENT_EPOCH (R85). -/
def execJudgementEpoch (s : State) : Host.Outcome State Fault Refusal :=
  match s.flt.epoch with
  | some d =>
    let s1 := s.reach d
    .next (State.judge { s1 with flt := { s1.flt with epoch := some (d + Config.epochPeriod) } })
  | none => .next s

end Sys2Proof.Machine
end

