-- ==== Sys2Proof/Machine/Tone.lean ====
section
/-! DEFINITION. The Tone Transmitter: slots, markers' offsets, carrying pumps, frame snapshots and the keying of the tone
(chapter 2). -/

namespace Sys2Proof.Machine

/-- Slot centre of position `q`, in Hz (R17). -/
def slotCentre (q : Nat) : Nat := 200000 + 1000 * q

/-- Offset of a marker from the slot centre, in Hz (R18). -/
def Marker.offset : Marker → Int
  | .isolated => -300
  | .alarm => 300
  | .probing => 150
  | .nominal => 0

/-- The carrying pumps: not OFF, with a supervisory-pair amplifier in their group (R20). -/
def State.carrying (s : State) (j : Nat) : Bool :=
  s.pbc.isIn j [.active, .probe, .floor] && (s.cfg.feeds j (s.cfg.supAmp .e) || s.cfg.feeds j (s.cfg.supAmp .w))

/-- The snapshot of the next frame (R25 to R29).  A REPEATER station's directive register is always empty (R178). -/
def State.snapshot (s : State) (marker : Marker) : Frame :=
  { origin := s.cfg.position
    role := s.cfg.role
    pairs := s.cfg.n
    marker := marker
    probeActive := s.pru.flag.isSome
    probePump := s.pru.flag.getD 0
    pumpCount := s.cfg.m
    amps := s.ownAmps.map OwnAmp.frame
    pumps := s.ownPumps.map OwnPump.frame
    directive := if s.cfg.role = .terminal then s.tpt.directive else none }

/-- Reversals of the tone's phase in some bits: one at the start of each 0 bit (R23). -/
def reversals (bits : List Bool) : Nat := bits.countP fun b => !b

/-- Whether a number of reversals leaves the phase reversed. -/
def isReversed (before : Bool) (k : Nat) : Bool := xor before (k % 2 == 1)

/-- Duration of a frame, in ms (R31). -/
def frameTime (f : Frame) : Nat := Config.bitTime * (frameBits f).length

/-- The next frame begins at `now`, back to back with what was sent before (R24). -/
def Sending.next (now : Moment) (f : Frame) (t : Sending) : Sending :=
  { marker := t.marker
    frame := some f
    ends := now + frameTime f
    reversed := match t.frame with
      | some old => isReversed t.reversed (reversals (frameBits old))
      | none => t.reversed }

/-- FRAME_SNAPSHOT (R25). -/
def execFrameSnapshot (s : State) : Host.Outcome State Fault Refusal :=
  match s.ttx with
  | .sending t => .next { s.reach t.ends with ttx := .sending (t.next t.ends (s.snapshot t.marker)) }
  | .silent => .next s

/-- SENDING entered (R24): the marker as the conditions give it, and one bit period of reference.  The tone's phase in
the reference period is the one every later phase is compared with. -/
def State.startSending (s : State) : State :=
  { s with
    ttx := .sending { marker := s.markerNow, frame := none, ends := s.now + Config.bitTime, reversed := false } }

/-! ## What is on the line at the model's present moment -/

/-- The number of whole bits of the frame in progress already begun at `now`, the present one included. -/
def Sending.bitsBegun (now : Moment) (t : Sending) (f : Frame) : Nat :=
  (now + frameTime f - t.ends) / Config.bitTime + 1

/-- The tone in the envelope: its frequency in Hz, and whether its phase is the reverse of the reference (R17 to R19,
R23). -/
structure Tone where
  frequency : Int
  reversed : Bool
  deriving DecidableEq, Repr

/-- The tone that rides on the carrying pumps and on the dither output pin; none while SILENT (R22, R24). -/
def State.tone (s : State) : Option Tone :=
  match s.ttx with
  | .silent => none
  | .sending t =>
    some
      { frequency := (slotCentre s.cfg.position : Int) + t.marker.offset
        reversed := match t.frame with
          | none => t.reversed
          | some f => isReversed t.reversed (reversals ((frameBits f).take (t.bitsBegun s.now f))) }

end Sys2Proof.Machine
end

