-- ==== Sys2Proof/Machine/Pins.lean ====
section
/-! DEFINITION. The output pins, as functions of the state (R20 to R22, R131, R146, R149, R175, section 13.5). -/

namespace Sys2Proof.Machine

/-- PDRV: at hand-off the supervisor does not drive the line and the driver follows its own preset; under control it
gives the laser enable, the applied drive in mA, and the swing of the tone on either side of it in µA, 0 on a pump that
does not carry (R20, R21, R131, R146). -/
inductive DriverPin where
  | handOff
  | driven (laser : Bool) (applied : Nat) (swing : Nat)
  deriving DecidableEq, Repr

/-- The swing of a pump with an applied drive in mA and a depth in 0.1 %: the depth's share of the drive, in µA (R21). -/
def ditherSwing (applied depth : Nat) : Nat := applied * depth

/-- PDRV of pump `j` (R21, R131, R146).  DESIGN CHOICE (log entry 27): the line of a pump index at or above m, which has no
record, stays at hand-off while VALID too; R147 speaks of every pump of the station. -/
def State.driverPin (s : State) (j : Nat) : DriverPin :=
  match s.pbc.pumps[j]? with
  | some x =>
    .driven (x.state != .off) x.applied
      (if s.carrying j && s.tone.isSome then ditherSwing x.applied s.cfg.dither else 0)
  | none => .handOff

/-- BYP: at hand-off while INVALID, otherwise the commanded position (R146, R147). -/
inductive BypassPin where
  | handOff
  | inLine
  | set
  deriving DecidableEq, Repr

def State.bypassPin (s : State) (a : Nat) : BypassPin :=
  if s.cfl.valid then (if s.pbc.bypassed a then .set else .inLine) else .handOff

/-- TDIT: the composed tone at its fixed level, or the mid level while SILENT (R22). -/
def State.ditherPin (s : State) : Option Tone := s.tone

/-- ATTN: not driven while the port is inactive, otherwise asserted while a cause is pending (R175, R185). -/
def State.attention (s : State) : Option Bool := if s.portActive then some s.tpt.causes.any else none

end Sys2Proof.Machine
end

