-- ==== Sys2Proof/Machine/Loader.lean ====
section
/-! DEFINITION. The Configuration Loader, the station clock, the declaration of VALID and the sample sets (chapter 10,
R3, R13). -/

namespace Sys2Proof.Machine

/-! ## Cold start and load (R162 to R167) -/

/-- COLD_START (R163): every block in its cold-start state.  The bypass switches latch by themselves and stay where they
stand (R146), and an SPI transaction in progress is abandoned (R175). -/
def execColdStart (s : State) : Host.Outcome State Fault Refusal :=
  .next (State.cold s.pbc.switches s.spi s.spare s.pending)

/-- LOAD_BEGIN (R163). -/
def execLoadBegin (strap : Level) (s : State) : Host.Outcome State Fault Refusal :=
  if s.cfl.resetHeld then
    .next
      { s with
        now := 0
        cfl := { s.cfl with resetHeld := false, strap := roleOfStrap strap, clock := 0, phase := .readingHeader } }
  else .next s

/-- STATION_CLOCK_TICK (R162): held at 0 while the part is held at cold start (R163). -/
def execStationClockTick (s : State) : Host.Outcome State Fault Refusal :=
  if s.cfl.resetHeld then .next s
  else
    let s1 := s.reach (1000 * (s.cfl.clock + 1))
    .next { s1 with cfl := { s1.cfl with clock := saturate32 (s1.cfl.clock + 1) } }

/-- A failed load (R162): DONE with the result, the image discarded, INVALID. -/
def Cfl.fail (r : LoadResult) (x : Cfl) : Cfl := { x with phase := .done, result := some r, image := [] }

/-- The load is running in the given phase (R163). -/
def Cfl.isLoading (x : Cfl) (phase : LoadPhase) : Bool := !x.resetHeld && x.phase == phase

/-- R165: what word 0 decides. -/
def Cfl.takeHeader (hi lo : Byte) (x : Cfl) : Cfl :=
  if hi ≠ Config.magic then x.fail .badMagic
  else if lo.toNat < 24 ∨ 120 < lo.toNat then x.fail .badLength
  else { x with phase := .readingBody, image := [hi ++ lo] }

/-- READING_HEADER (R164, R165).  A read transaction that is over has returned both bytes of word 0. -/
def execReadingHeader (reply : BusReply) (s : State) : Host.Outcome State Fault Refusal :=
  if s.cfl.isLoading .readingHeader then
    match reply with
    | .data (hi :: lo :: _) =>
      .next { s with cfl := { s.cfl with bus := busTransaction 0 (.data [hi, lo]) }.takeHeader hi lo }
    | .data _ => .next s
    | r => .next { s with cfl := { s.cfl with bus := busTransaction 0 r }.fail .absent }
  else .next s

/-- N, the low byte of word 0 (R165). -/
def Cfl.bodyLength (x : Cfl) : Nat := field 7 0 (wordAt x.image 0)

/-- CHECKING (R166, R167): the checksum, then the field validity checks, for the strap value. -/
def Cfl.check (strap : Role) (x : Cfl) : Cfl :=
  if onesSum x.image ≠ 0xFFFF then x.fail .badChecksum
  else match firstFailure (readCommissioning x.image) strap with
    | some k => x.fail (.badField k)
    | none => { x with phase := .sampling }

/-- READING_BODY (R164, R166, R167).  The sequential read that is over has returned words 1 to N, 2N bytes. -/
def execReadingBody (reply : BusReply) (s : State) : Host.Outcome State Fault Refusal :=
  if s.cfl.isLoading .readingBody then
    match reply with
    | .data bytes =>
      let body := bytes.take (2 * s.cfl.bodyLength)
      if body.length < 2 * s.cfl.bodyLength then .next s
      else
        .next
          { s with
            cfl :=
              Cfl.check s.cfl.strap
                { s.cfl with bus := busTransaction 2 (.data body), image := s.cfl.image ++ wordsOf body } }
    | r => .next { s with cfl := { s.cfl with bus := busTransaction 2 r }.fail .absent }
  else .next s

/-- WORD_TRANSFER_TIMEOUT (R164): the port releases the bus. -/
def execWordTransferTimeout (s : State) : Host.Outcome State Fault Refusal :=
  if s.cfl.isLoading .readingHeader || s.cfl.isLoading .readingBody then
    .next { s with cfl := { s.cfl with bus := [.released] }.fail .absent }
  else .next s

/-! ## The declaration (R168) -/

/-- Positions that can supply a basis, within 1 to 254 (R95). -/
def quietPositions (p : Nat) : List Nat :=
  [p - 1, p - 2, p + 1, p + 2].filter fun q => decide (1 ≤ q) && decide (q ≤ Config.lastPosition)

/-- R87, R95, R99, R126: the FLT when the configuration becomes VALID. -/
def Flt.start (c : Commissioning) (clock : Nat) (now : Moment) (l : Lmu) : Flt :=
  Flt.takeClasses clock l
    { epoch := some (now + Config.firstEpoch)
      refs := c.refs
      spans := List.replicate c.ampCount (SpanEntry.start clock)
      amps := List.replicate c.ampCount (AmpEntry.start clock false)
      pumps := List.replicate c.m (PumpEntry.start clock)
      quiet := (quietPositions c.position).map fun q => ⟨q, false, none⟩
      settle := List.replicate c.ampCount none }

/-- R159. -/
def Pru.start (c : Commissioning) (now : Moment) : Pru :=
  { state := .idle, rotation := 0, interval := intervalTimer c now, scheduled := false, round := none, gap := none }

/-- Every block's start in the event of the declaration (R168), after the first sample set. -/
def State.declare (raw : Readings) (s : State) : State :=
  let c := s.cfg
  let l := { s.lmu.firstSet c raw with epoch := some (s.now + Config.sampleEpoch) }
  let rbe := s.rbe.start c .e s.now l
  let rbw := s.rbw.start c .w s.now l
  State.startSending
    { s with
      cfl := { s.cfl with result := some .ok, phase := .done, valid := true }
      lmu := l
      rbe := rbe
      rbw := rbw
      records := rbe.pinnedRecords s.now .e ++ rbw.pinnedRecords s.now .w
      flt := Flt.start c s.cfl.clock s.now l
      pbc := s.pbc.start c s.now
      pru := Pru.start c s.now }

/-- DECLARE_VALID (R168). -/
def execDeclareValid (raw : Readings) (s : State) : Host.Outcome State Fault Refusal :=
  if s.cfl.isLoading .sampling then .next (s.declare raw) else .next s

/-! ## Sample sets (R3, R13, R14) -/

/-- One class-change event delivered: to the FLT, and to the bank of the supervisory pair whose input it is (R14). -/
def State.deliverClass (s : State) (ev : ClassChange) : State :=
  let s1 := { s with flt := s.flt.classChange s.cfg s.cfl.clock ev }
  let s2 := if ev.amp = s.cfg.supAmp .e then { s1 with rbe := s1.rbe.hearClass s1.now ev.new } else s1
  if ev.amp = s.cfg.supAmp .w then { s2 with rbw := s2.rbw.hearClass s2.now ev.new } else s2

/-- SAMPLE_SET (R3, R6, R11, R13). -/
def execSampleSet (raw : Readings) (s : State) : Host.Outcome State Fault Refusal :=
  match s.lmu.epoch with
  | some d =>
    let l := { s.lmu.sampleSet s.cfg raw with epoch := some (d + Config.sampleEpoch) }
    .next ((classChanges s.lmu l).foldl State.deliverClass { s.reach d with lmu := l }).report
  | none => .next s

end Sys2Proof.Machine
end

