-- ==== Sys2Proof/Machine/Port.lean ====
section
/-! DEFINITION. The Terminal Port's commands and the payloads of their responses (R175 to R184, R191, R192). -/

namespace Sys2Proof.Machine

/-! ## Responses (R191) -/

/-- The response bytes in order: status, length, payload. -/
def Response.bytes (r : Response) : List Byte :=
  byteOf r.status.code :: byteOf r.payload.length :: r.payload

/-- Byte `k` that the port clocks out after the operands; bytes after the payload read 0xFF. -/
def Response.byteAt (r : Response) (k : Nat) : Byte := r.bytes.getD k 0xFF

/-- Byte `k` on the data output in a transaction that begins with the command byte `code`: 0xFF while the command and its
operands are clocked in, then the response (R191). -/
def Response.outByte (r : Response) (code : Byte) (k : Nat) : Byte :=
  if k ≤ operandCount code then 0xFF else r.byteAt (k - operandCount code - 1)

/-- SDO at clock `i` of a transaction that begins with the command byte `code`, the bits of each byte most significant
first (R188): none, high-impedance, while chip select is high or the port is inactive (R175, R191). -/
def State.dataOut (s : State) (select : Level) (code : Byte) (i : Nat) : Option Level :=
  match select, s.portActive, s.tpt.response with
  | .low, true, some r => some (levelOf ((r.outByte code (i / 8)).getMsbD (i % 8)))
  | .low, true, none => some .high
  | _, _, _ => none

def Response.ok (payload : List Byte) : Response := { status := .ok, payload := payload }

/-- The empty marker. -/
def Response.empty : Response := Response.ok []

/-- A response fixed (R175). -/
def State.respond (s : State) (r : Response) : State := { s with tpt := { s.tpt with response := some r } }

/-! ## Payload fields (R192) -/

/-- Payload byte `k`, whose fields are `value`, with the bits of `spareMask`, to which R192 gives no field, free (log entry
4). -/
def State.withSpare (s : State) (k : Nat) (spareMask value : Byte) : Byte :=
  (Config.spareBits s.spare k &&& spareMask) ||| (value &&& ~~~spareMask)

def flagBit (k : Nat) (b : Bool) : Nat := if b then 2 ^ k else 0

/-- The set of pending causes (R192, byte 6 of READ_STATUS). -/
def Causes.code (c : Causes) : Nat :=
  flagBit 0 c.recordTimer + flagBit 1 c.absoluteTimer + flagBit 2 c.critical + flagBit 3 c.lowSpace + flagBit 4 c.overrun

/-- A directive value in payload bytes `k` and `k` + 1: bit 15 present, bits 13 to 12 kind, 11 to 4 target, 3 to 0 id; bit 14
has no field.  None is 0x0000. -/
def State.directiveValue (s : State) (k : Nat) : Option Directive → List Byte
  | none => [0, 0]
  | some d =>
    let v := 0x8000 + 0x1000 * d.kind.code + 16 * d.target + d.id
    [s.withSpare k 0x40 (byteOf (v / 256)), byteOf v]

/-! ## READ_STATUS -/

def State.statusPayload (s : State) : List Byte :=
  [ byteOf (loadResultCode s.cfl.result),
    byteOf (failingCheck s.cfl.result),
    if s.cfl.valid then 1 else 0,
    s.withSpare 3 0xF0 (byteOf (4 * s.rbe.state.code + s.rbw.state.code)),
    byteOf s.tpt.queue.length,
    byteOf s.tpt.overrun,
    s.withSpare 6 0xE0 (byteOf s.tpt.causes.code) ]

/-! ## READ_PRESENCE -/

def presencePayload (e : MapEntry) : List Byte :=
  [byteOf e.pos, byteOf e.confirmed.code, byteOf (pendingCode e.pending)] ++ bytesOf 4 e.lastChange ++
    [if e.held then 1 else 0]

/-- The map that READ_PRESENCE reads: the inbound bank's (R45, R46). -/
def State.inboundMap (s : State) : List MapEntry := if s.cfg.isOutbound .e then s.rbw.map else s.rbe.map

def State.presenceResponse (s : State) (q : Nat) : Response :=
  if s.cfl.valid then
    match findEntry s.inboundMap q with
    | some e => Response.ok (presencePayload e)
    | none => Response.empty
  else Response.empty

/-! ## READ_RECORD -/

def Change.kindCode : Change → Nat
  | .presence .. => 0
  | .spanVerdict .. | .gainVerdict .. | .pumpVerdict .. => 1
  | .ampState .. | .pumpState .. => 2
  | .directive .. => 3

/-- 0 to 7 amplifier index, 8 to 11 pump index 0 to 3, 15 none. -/
def Change.elementCode : Change → Nat
  | .presence .. | .directive .. => 15
  | .ampState a .. | .spanVerdict a .. | .gainVerdict a .. => a
  | .pumpState j .. | .pumpVerdict j .. => 8 + j

def Change.fieldCode : Change → Nat
  | .presence .. => 0 | .ampState .. => 1 | .spanVerdict .. => 2 | .gainVerdict .. => 3 | .pumpState .. => 4
  | .pumpVerdict .. => 5 | .directive .. => 6

/-- Bytes 4 to 7: old value and new value. -/
def State.changeValues (s : State) : Change → List Byte
  | .presence o n => [0, byteOf o.code, 0, byteOf n.code]
  | .ampState _ o n => [0, byteOf o.code, 0, byteOf n.code]
  | .spanVerdict _ o n => [0, byteOf o.code, 0, byteOf n.code]
  | .gainVerdict _ o n => [0, byteOf o.code, 0, byteOf n.code]
  | .pumpState _ o n => [0, byteOf o.code, 0, byteOf n.code]
  | .pumpVerdict _ o n => [0, byteOf o.code, 0, byteOf n.code]
  | .directive o n => s.directiveValue 4 o ++ s.directiveValue 6 (some n)

def State.recordPayload (s : State) (r : Record) : List Byte :=
  [ byteOf (64 * r.change.kindCode + 16 * r.severity.code + r.change.elementCode), byteOf r.origin,
    byteOf r.change.fieldCode, byteOf r.lostBefore ] ++ s.changeValues r.change ++ bytesOf 4 r.stamp

/-! ## READ_OBSERVATION -/

def frameAmpBytes (a : FrameAmp) : List Byte :=
  bytesOf 2 (signedWord a.sIn) ++ bytesOf 2 (signedWord a.sOut) ++
    [byteOf a.cls.code, byteOf a.state.code, byteOf a.span.code, byteOf a.gain.code]

def framePumpBytes (p : FramePump) : List Byte := [byteOf p.state.code, byteOf p.verdict.code]

/-- An own amplifier entry, 20 bytes; each in-use meter holds a last reading while VALID (log entry 9). -/
def ownAmpBytes (a : OwnAmp) : List Byte :=
  frameAmpBytes a.frame ++ bytesOf 2 (signedWord (a.lastIn.getD 0)) ++ bytesOf 2 (signedWord (a.lastOut.getD 0)) ++
    bytesOf 4 a.spanSince ++ bytesOf 4 a.gainSince

def ownPumpBytes (p : OwnPump) : List Byte := framePumpBytes p.frame ++ bytesOf 4 p.since

/-- Byte 6 of the head: role and counts; bit 3 has no field. -/
def State.countsByte (s : State) (role : Role) (n m : Nat) : Byte :=
  s.withSpare 6 0x08 (byteOf (128 * roleCode role + 16 * n + m))

/-- Byte 7 of the head: probe active, probe pump, marker; bits 6, 3 and 2 have no field, nor has the pump field of an own
record whose probe flag is clear. -/
def State.probeByte (s : State) (probe : Option Nat) (m : Marker) : Byte :=
  match probe with
  | some j => s.withSpare 7 0x4C (byteOf (128 + 16 * j + m.code))
  | none => s.withSpare 7 0x7C (byteOf m.code)

/-- The own record.  R192 gives its byte 0, the origin, no value of its own and R68 gives the record no origin: it is the station's
own position, which the command names (DESIGN CHOICE, log entry 32). -/
def State.ownPayload (s : State) (r : OwnRecord) : List Byte :=
  [byteOf s.cfg.position, 0, 0xFF, 0xFF, 0, 0, s.countsByte r.role r.pairs r.pumpCount, s.probeByte r.probe r.marker,
    byteOf r.supPair] ++ r.amps.flatMap ownAmpBytes ++ r.pumps.flatMap ownPumpBytes

/-- Byte 7 of a neighbour record's head, with the probe pump as carried (R82). -/
def State.neighbourProbeByte (s : State) (f : Frame) : Byte :=
  s.withSpare 7 0x4C (byteOf (flagBit 7 f.probeActive + 16 * f.probePump + f.marker.code))

def State.neighbourPayload (s : State) (r : Neighbour) : List Byte :=
  [byteOf r.origin, 1, byteOf (bankCode r.bank), byteOf r.freshness.code] ++ bytesOf 2 r.age ++
  (match r.contents with
    | none => [0, 0, 0]
    | some f =>
      [s.countsByte f.role f.pairs f.pumpCount, s.neighbourProbeByte f, 0] ++ f.amps.flatMap frameAmpBytes ++
        f.pumps.flatMap framePumpBytes ++ s.directiveValue (9 + 8 * f.amps.length + 2 * f.pumps.length) f.directive)

/-- R84. -/
def State.observationResponse (s : State) (q : Nat) : Response :=
  if s.cfl.valid then
    if q = s.cfg.position then
      match s.ownRecord with
      | some r => Response.ok (s.ownPayload r)
      | none => Response.empty
    else match findRecord s.records q with
      | some r => Response.ok (s.neighbourPayload r)
      | none => Response.empty
  else Response.empty

/-! ## The meanings: with the port inactive the pins' levels are disregarded (R175) -/

/-- READ_STATUS (R176): the response fixed, then every pending cause cleared; no timer starts. -/
def execReadStatus (s : State) : Host.Outcome State Fault Refusal :=
  if s.portActive then
    let s1 := s.spend.respond (Response.ok s.statusPayload)
    .next { s1 with tpt := { s1.tpt with causes := Causes.empty } }
  else .next s

/-- READ_PRESENCE (R177). -/
def execReadPresence (q : Byte) (s : State) : Host.Outcome State Fault Refusal :=
  if s.portActive then .next (s.respond (s.presenceResponse q.toNat)) else .next s

/-- READ_OBSERVATION (R177). -/
def execReadObservation (q : Byte) (s : State) : Host.Outcome State Fault Refusal :=
  if s.portActive then .next (s.spend.respond (s.observationResponse q.toNat)) else .next s

/-- WRITE_DIRECTIVE (R178, R191). -/
def execWriteDirective (kind target : Byte) (s : State) : Host.Outcome State Fault Refusal :=
  if s.portActive then
    if !s.cfl.valid then .next (s.respond ⟨.notValid, []⟩)
    else if target = 0 then .next (s.respond ⟨.badTarget, []⟩)
    else
      let d : Directive := ⟨DirectiveKind.ofCode kind.toNat, target.toNat, s.tpt.idCounter⟩
      let s1 :=
        { s with tpt := { s.tpt with directive := some d, idCounter := (s.tpt.idCounter + 1) % 16 } }
      .next ((s1.offerAll s.cfg.position [.directive s.tpt.directive d]).respond Response.empty)
  else .next s

/-- CLEAR_DIRECTIVE (R179). -/
def execClearDirective (s : State) : Host.Outcome State Fault Refusal :=
  if s.portActive then
    .next (State.respond { s with tpt := { s.tpt with directive := none } } Response.empty)
  else .next s

/-- READ_RECORD (R184). -/
def execReadRecord (i : Byte) (s : State) : Host.Outcome State Fault Refusal :=
  if s.portActive then
    match s.tpt.queue[i.toNat]? with
    | some r => .next (s.spend.respond (Response.ok (s.recordPayload r)))
    | none => .next (s.respond Response.empty)
  else .next s

/-- ADVANCE (R184). -/
def execAdvance (n : Byte) (s : State) : Host.Outcome State Fault Refusal :=
  if s.portActive then
    let queue := s.tpt.queue.drop n.toNat
    .next (State.respond { s with tpt := { s.tpt with queue := queue } } (Response.ok [byteOf queue.length]))
  else .next s

/-- CLEAR_QUEUE (R184). -/
def execClearQueue (s : State) : Host.Outcome State Fault Refusal :=
  if s.portActive then
    .next
      (State.respond
        { s with
          tpt := { s.tpt with queue := [], overrun := 0, gap := 0, recordTimer := none, absoluteTimer := none } }
        Response.empty)
  else .next s

/-- BAD_COMMAND (R191): answered at once, with no effect. -/
def execBadCommand (_ : Byte) (s : State) : Host.Outcome State Fault Refusal :=
  if s.portActive then .next (s.respond ⟨.badCommand, []⟩) else .next s

end Sys2Proof.Machine
end

