-- ==== Sys2Proof/Machine/Dispatch.lean ====
section
/-! DEFINITION. `exec`: one arm for each command, each a direct call of its meaning. -/

namespace Sys2Proof.Machine

def exec (i : Instr) (s : State) : Host.Outcome State Fault Refusal :=
  match i with
  | .coldStart => Sys2Proof.Machine.execColdStart s
  | .loadBegin strap => Sys2Proof.Machine.execLoadBegin strap s
  | .stationClockTick => Sys2Proof.Machine.execStationClockTick s
  | .readingHeader reply => Sys2Proof.Machine.execReadingHeader reply s
  | .readingBody reply => Sys2Proof.Machine.execReadingBody reply s
  | .wordTransferTimeout => Sys2Proof.Machine.execWordTransferTimeout s
  | .declareValid raw => Sys2Proof.Machine.execDeclareValid raw s
  | .sampleSet raw => Sys2Proof.Machine.execSampleSet raw s
  | .confirmationTimerExpiry b => Sys2Proof.Machine.execConfirmationTimerExpiry b s
  | .dwellComplete b d => Sys2Proof.Machine.execDwellComplete b d s
  | .syncFound b t => Sys2Proof.Machine.execSyncFound b t s
  | .frameChecked b t bits => Sys2Proof.Machine.execFrameChecked b t bits s
  | .syncMissing b t => Sys2Proof.Machine.execSyncMissing b t s
  | .syncTimerExpiry b t => Sys2Proof.Machine.execSyncTimerExpiry b t s
  | .recordAgeTick q => Sys2Proof.Machine.execRecordAgeTick q s
  | .frameSnapshot => Sys2Proof.Machine.execFrameSnapshot s
  | .judgementEpoch => Sys2Proof.Machine.execJudgementEpoch s
  | .probeEpochRetry => Sys2Proof.Machine.execProbeEpochRetry s
  | .roundEpochRetry => Sys2Proof.Machine.execRoundEpochRetry s
  | .ampIsolationRequest => Sys2Proof.Machine.execAmpIsolationRequest s
  | .pumpIsolationRequest => Sys2Proof.Machine.execPumpIsolationRequest s
  | .stepTimerExpiry j => Sys2Proof.Machine.execStepTimerExpiry j s
  | .probeIntervalExpiry => Sys2Proof.Machine.execProbeIntervalExpiry s
  | .probeDriveRequest => Sys2Proof.Machine.execProbeDriveRequest s
  | .probeWindowExpiry => Sys2Proof.Machine.execProbeWindowExpiry s
  | .restoreRequest => Sys2Proof.Machine.execRestoreRequest s
  | .gapTimerExpiry => Sys2Proof.Machine.execGapTimerExpiry s
  | .readStatus => Sys2Proof.Machine.execReadStatus s
  | .readPresence q => Sys2Proof.Machine.execReadPresence q s
  | .readObservation q => Sys2Proof.Machine.execReadObservation q s
  | .writeDirective kind target => Sys2Proof.Machine.execWriteDirective kind target s
  | .clearDirective => Sys2Proof.Machine.execClearDirective s
  | .readRecord k => Sys2Proof.Machine.execReadRecord k s
  | .advance n => Sys2Proof.Machine.execAdvance n s
  | .clearQueue => Sys2Proof.Machine.execClearQueue s
  | .badCommand code => Sys2Proof.Machine.execBadCommand code s
  | .recordTimerExpiry => Sys2Proof.Machine.execRecordTimerExpiry s
  | .absoluteTimerExpiry => Sys2Proof.Machine.execAbsoluteTimerExpiry s

end Sys2Proof.Machine
end

