-- ==== Sys2Proof/Machine/Spi.lean ====
section
/-! DEFINITION. The SPI slave at its pins: mode 0, framing by chip select, the taking of a command, and the data output
(R175, R191). -/

namespace Sys2Proof.Machine

/-- SCK rises from the levels `before` to the levels `after`. -/
def SpiPins.rises (before after : SpiPins) : Bool := before.sck == .low && after.sck == .high

/-- The bits of the transaction in progress once the pins take new levels (R175).  Chip select high ends it, its falling
begins a new one, and while it stays low each rising edge of SCK samples SDI.  DESIGN CHOICE (log entry 30): an edge of SCK
that comes together with the falling of chip select is no clock. -/
def Spi.follow (x : Spi) (p : SpiPins) : Option (List Bool) :=
  match x.pins.csn, p.csn with
  | _, .high => none
  | .high, .low => some []
  | .low, .low => x.bits.map fun bits => if x.pins.rises p then bits ++ [p.sdi == .high] else bits

/-- The pins take new levels.  While the port is inactive the levels are disregarded: no transaction is in progress, and one
begins only when chip select falls while the port is active (R175). -/
def Spi.see (active : Bool) (p : SpiPins) (x : Spi) : Spi :=
  { x with pins := p, bits := if active then x.follow p else none }

/-- The command that the transaction in progress has spelled so far; none before the last operand byte is complete. -/
def Spi.command (x : Spi) : Option Instr := x.bits.bind decodeBits

/-- The pins take new levels: a command whose last operand byte completes with them is taken, whole and at once (R175). -/
def State.seePins (s : State) (p : SpiPins) : Host.Outcome State Fault Refusal :=
  let spi := s.spi.see s.portActive p
  match s.spi.command, spi.command with
  | none, some c => exec c { s with spi := spi }
  | _, _ => .next { s with spi := spi }

/-- The clock whose bit stands on SDO: the one under way while SCK is high, and the next while it is low.  PRESUMED of SPI
mode 0 (log entry 30): SDO changes at the falling edge of SCK. -/
def Spi.clockShown (x : Spi) (bits : List Bool) : Nat :=
  if x.pins.sck = .high then bits.length - 1 else bits.length

/-- SDO, from the pins and the transaction in progress (R188, R191): high-impedance (none) while chip select is high or the
port inactive, 0xFF until a command is taken, then its response.  DESIGN CHOICE (log entry 30): with chip select low and no
transaction in progress SDO is high. -/
def State.sdo (s : State) : Option Level :=
  match s.spi.bits, s.spi.command with
  | some bits, some _ => s.dataOut s.spi.pins.csn ((bytesClocked bits).headD 0) (s.spi.clockShown bits)
  | _, _ => if s.portActive && s.spi.pins.csn == .low then some .high else none

end Sys2Proof.Machine
end

