-- ==== Sys2Proof/Machine/Step.lean ====
section
/-! DEFINITION. One step: the command at the front of the queue, or the next levels at the SPI pins, or one millisecond of
idling. -/

namespace Sys2Proof.Machine

/-- The command at the front of the queue is executed with the queue's rest.  On an empty queue the SPI pins take the next
levels that wait (DESIGN CHOICE, log entry 30); with none waiting the block idles and one millisecond of the timebase passes
(DESIGN CHOICE, log entry 1). -/
def step (s : State) : Host.Outcome State Fault Refusal :=
  match s.pending with
  | [] =>
    match s.spi.waiting with
    | p :: rest => State.seePins { s with spi := { s.spi with waiting := rest } } p
    | [] => .next { s with now := s.now + 1 }
  | c :: rest => exec c { s with pending := rest }

/-- The state with the command that a word spells, by the table's bits, at the front of its queue. -/
def State.withFetchWord (s : State) (nbits w : Nat) : State :=
  match decodeTableWord nbits w with
  | some c => { s with pending := c :: s.pending }
  | none => s

end Sys2Proof.Machine
end

