-- ==== Sys2Proof/Safety.lean ====
section
/-! DEFINITION. What a sound state is: the laws L1 to L11 that the spec's rules name, and the invariants under them, each as a
predicate on the state; and the words that several statements share.  L10 is a law about runs; the Directive Filter's entry
that carries it is stated where directives are. -/

namespace Sys2Proof.Machine

/-! ## The load (R162 to R170) -/

/-- R169: while INVALID every block stands as the cold start left it.  The bypass switches latch by themselves (R146), and
the response last fixed is no state of the spec's; the SPI slave is at work while INVALID as well (R175). -/
def State.untouched (s : State) : Prop :=
  s.lmu = Lmu.cold ∧ s.ttx = .silent ∧ s.rbe = RxBank.cold ∧ s.rbw = RxBank.cold ∧ s.filter = Filter.cold ∧
    s.records = [] ∧ s.flt = Flt.cold ∧ s.pbc = Pbc.cold s.pbc.switches ∧ s.pru = Pru.cold ∧
    s.tpt = { Tpt.cold with response := s.tpt.response }

/-- The configuration image passes every field validity check for the strap sampled (R167). -/
def State.commissioned (s : State) : Prop := firstFailure s.cfg s.cfl.strap = none

/-- R162, R163, R168: VALID only in DONE with result OK, the image checked from SAMPLING on, the result none exactly while
the phase is not DONE, the image discarded by a failed load, and every other block untouched until VALID. -/
def Loaded (s : State) : Prop :=
  (s.cfl.resetHeld = true → s.cfl.valid = false ∧ s.cfl.phase = .readingHeader) ∧
  (s.cfl.valid = true ↔ s.cfl.result = some .ok) ∧
  (s.cfl.phase = .done ↔ s.cfl.result ≠ none) ∧
  (s.cfl.valid = true ∨ s.cfl.phase = .sampling → s.commissioned) ∧
  (s.cfl.phase = .done → s.cfl.valid = false → s.cfl.image = []) ∧
  (s.cfl.valid = false → s.untouched)

/-! ## What VALID fixes (R1, R2, R24, R55, R103, R129) -/

def InputMeter.isTracking : InputMeter → Bool
  | .tracking .. => true
  | _ => false

def OutputMeter.isTracking : OutputMeter → Bool
  | .tracking .. => true
  | _ => false

/-- While VALID: sixteen meters, those of amplifiers 0 to 2n-1 in TRACKING and the others OUT_OF_USE (R1, R2); 2n references,
SPAN and AMP entries and settle times, m PUMP entries (R87, R99, R103); m pump records and 2n bypass latches (R129); the
TTX sending (R24) and the epochs' timers running (R3, R85). -/
def Shaped (s : State) : Prop :=
  s.cfl.valid = true →
    s.lmu.inputs.map InputMeter.isTracking = (List.range 8).map (fun a => decide (a < s.cfg.ampCount)) ∧
    s.lmu.outputs.map OutputMeter.isTracking = (List.range 8).map (fun a => decide (a < s.cfg.ampCount)) ∧
    s.flt.refs.length = s.cfg.ampCount ∧ s.flt.spans.length = s.cfg.ampCount ∧
    s.flt.amps.length = s.cfg.ampCount ∧ s.flt.settle.length = s.cfg.ampCount ∧ s.flt.pumps.length = s.cfg.m ∧
    s.pbc.pumps.length = s.cfg.m ∧ s.pbc.bypass.length = s.cfg.ampCount ∧
    s.ttx ≠ .silent ∧ s.lmu.epoch.isSome = true ∧ s.flt.epoch.isSome = true

/-! ## L1 (R7) -/

/-- Every smoothed meter value lies within -6000 to +3000 cdBm. -/
def MetersInRange (s : State) : Prop :=
  (∀ m ∈ s.lmu.inputs, m.smoothed?.all (inRange Config.powerMin Config.powerMax) = true) ∧
    ∀ m ∈ s.lmu.outputs, m.smoothed?.all (inRange Config.powerMin Config.powerMax) = true

/-! ## L2 (R123) -/

/-- One entry of the Suspect Table, also one as it was before a result that can be taken back (log entry 25): a score of 0 to
255, above the release level while FAULTY. -/
def scoreSound (lr score : Nat) (state : Suspicion) : Prop :=
  score ≤ Config.scoreMax ∧ (state = .faulty → lr < score)

def ScoresSound (s : State) : Prop :=
  (∀ e ∈ s.flt.spans, scoreSound s.cfg.lr e.score e.state) ∧
    (∀ e ∈ s.flt.amps, scoreSound s.cfg.lr e.score e.state) ∧
      (∀ e ∈ s.flt.pumps, scoreSound s.cfg.lr e.score e.state) ∧
        ∀ r ∈ s.pbc.restores, ∀ g, r.result = some g → scoreSound s.cfg.lr g.before.score g.before.state

/-- R103, R111: the kind of a SPAN entry is none unless the entry is FAULTY, and a FAULTY one has a kind, since it entered
FAULTY with a basis or a dark input; so every verdict of R112 is one the rule lists. -/
def SpanKindsSound (s : State) : Prop := ∀ e ∈ s.flt.spans, e.kind ≠ .none ↔ e.state = .faulty

/-! ## L3 (R132), with R133's BUSY and R139's pre-probe drive -/

/-- One pump record under its parameters. -/
def pumpSound (k : PumpConfig) (x : Pump) : Prop :=
  (k.floor ≤ x.target ∧ x.target ≤ k.ceiling) ∧
  (x.state = .off → x.applied = 0) ∧
  (x.state ≠ .off → k.floor ≤ x.applied ∧ x.applied ≤ k.ceiling) ∧
  (x.step.isSome = x.busy) ∧
  (x.preProbe.isSome = (x.state == .probe)) ∧
  (x.preProbe.all fun d => decide (k.floor ≤ d) && decide (d ≤ k.ceiling)) = true

def PumpsSound (s : State) : Prop := ∀ j x, s.pbc.pumps[j]? = some x → pumpSound (s.cfg.pump j) x

/-- R132's sum for pump `j`, clamped to its floor and ceiling. -/
def targetSum (c : Commissioning) (p : Pbc) (j : Nat) : Nat :=
  max (c.pump j).floor (min (c.pump j).ceiling
    ((c.pump j).base + c.c * p.demands.countP (fun d => c.feeds j d.amp) +
      c.rinc * (List.range p.pumps.length).countP fun l =>
        decide (l ≠ j ∧ (p.pumps[l]?.map Pump.state) = some .off) && c.intersects l j))

/-- R132, R133: every target is that of the sum, and a pump with step interval 0 that is ACTIVE has jumped to it. -/
def TargetsCurrent (s : State) : Prop :=
  ∀ j x, s.pbc.pumps[j]? = some x →
    x.target = targetSum s.cfg s.pbc j ∧ ((s.cfg.pump j).interval = 0 → x.state = .active → x.applied = x.target)

/-! ## L4 (R59) and the records (R71) -/

/-- The positions assigned in a bank. -/
def RxBank.assigned (x : RxBank) : List Nat := x.trackers.filterMap Tracker.pos

/-- R48: IDLE exactly while no position is assigned, never IDLE when PINNED, and IDLE while no kind is fixed. -/
def Tracker.sound (t : Tracker) : Prop :=
  t.isIdle = t.pos.isNone ∧ (t.kind = some .pinned → t.isIdle = false) ∧ (t.kind = none → t.isIdle = true)

/-- One bank: sound trackers, and each position on the bank's side at most once. -/
def RxBank.distinct (p : Nat) (b : Bank) (x : RxBank) : Prop :=
  x.assigned.Nodup ∧ (∀ q ∈ x.assigned, q ∈ sidePositions p b) ∧ ∀ t ∈ x.trackers, t.sound

def TrackersDistinct (s : State) : Prop :=
  s.rbe.distinct s.cfg.position .e ∧ s.rbw.distinct s.cfg.position .w

/-- R42: the entries of a map are those of the bank's side, in order. -/
def MapsWhole (s : State) : Prop :=
  s.cfl.valid = true →
    s.rbe.map.map MapEntry.pos = sidePositions s.cfg.position .e ∧
      s.rbw.map.map MapEntry.pos = sidePositions s.cfg.position .w

/-- R56, R58: every position that a bank has captured is still eligible. -/
def RxBank.capturesEligible (c : Commissioning) (x : RxBank) : Prop :=
  ∀ t ∈ x.trackers, t.kind = some .capture → ∀ q, t.pos = some q → x.eligible c q = true

/-- The same of both banks. -/
def CapturesEligible (s : State) : Prop := s.rbe.capturesEligible s.cfg ∧ s.rbw.capturesEligible s.cfg

/-- R71: one neighbour record for each assigned tracker, no two with one origin. -/
def RecordsFollow (s : State) : Prop :=
  (s.records.map Neighbour.origin).Perm (s.rbe.assigned ++ s.rbw.assigned)

/-! ## L5 (R139), L6 (R142), L7 (R18), L8 (R135, R138), L9 (R180), L11 (R122) -/

/-- At most one pump in PROBE. -/
def OneProbe (s : State) : Prop := s.pbc.pumps.countP (fun x => x.state == .probe) ≤ 1

/-- At most one entry for each amplifier and reason, each of an own amplifier. -/
def DemandsDistinct (s : State) : Prop :=
  s.pbc.demands.Nodup ∧ ∀ d ∈ s.pbc.demands, d.amp < s.cfg.ampCount

/-- The marker is that of the highest-priority condition that holds. -/
def MarkerCurrent (s : State) : Prop :=
  match s.ttx with
  | .sending t => t.marker = s.markerNow
  | .silent => True

/-- One supervisory-pair amplifier: in-line, fed by a pump that is neither OFF nor FLOOR, and by none in FLOOR (R136: remap
does not reach the pumps that carry the tone). -/
def State.fed (s : State) (a : Nat) : Prop :=
  s.pbc.bypassed a = false ∧ (s.pbc.feeders s.cfg a).any (fun j => s.pbc.isIn j [.active, .probe]) = true ∧
    (s.pbc.feeders s.cfg a).all (fun j => !s.pbc.isIn j [.floor]) = true

def SupervisoryFed (s : State) : Prop :=
  s.cfl.valid = true → s.fed (s.cfg.supAmp .e) ∧ s.fed (s.cfg.supAmp .w)

/-- The records held and the free entries number 128. -/
def QueueBounded (s : State) : Prop := s.tpt.queue.length ≤ Config.queueRoom

/-- An amplifier is bypassed exactly while its AMP entry is latched, and a pump is OFF by isolation exactly while its PUMP
entry is. -/
def LatchesAgree (s : State) : Prop :=
  s.pbc.bypass = s.flt.amps.map AmpEntry.latch ∧ s.pbc.pumps.map Pump.latch = s.flt.pumps.map PumpEntry.latch ∧
    ∀ x ∈ s.pbc.pumps, x.latch = true → x.state = .off

/-! ## What statements about the tone, the pumps and received frames share (R19, R25, R54, R132, R133) -/

/-- R18, R19, R25: of the TTX only the marker changes, and it is that of the conditions afterwards; the frame in progress, its
end and the tone's phase stand. -/
def MarkerFollows (s t : State) : Prop :=
  t.ttx = match s.ttx with
    | .silent => .silent
    | .sending x => .sending { x with marker := t.markerNow }

/-- R133: what becomes of pump `x`, in an event at `now` that gives it the target `target`.  One that is not BUSY then keeps
its applied drive with its timer stopped; one that is BUSY jumps when its step interval is 0, and otherwise keeps its applied
drive with its timer running, on or from now. -/
def Steered (k : PumpConfig) (now : Moment) (target : Nat) (x y : Pump) : Prop :=
  let busy : Prop := x.state = .active ∧ x.applied ≠ target
  y.state = x.state ∧ y.latch = x.latch ∧ y.preProbe = x.preProbe ∧ y.target = target ∧
  (¬ busy → y.applied = x.applied ∧ y.step = none) ∧
  (busy → k.interval = 0 → y.applied = target ∧ y.step = none) ∧
  (busy → k.interval ≠ 0 → y.applied = x.applied ∧ y.step = some (x.step.getD (now + 10 * k.interval)))

/-- R54: the state in which the contents of the frame `f`, accepted by tracker `i` from the bits `stream`, have replaced its
record and its users have been told, before the filter takes its directive. -/
def State.received (s : State) (b : Bank) (i : Nat) (stream : List Bool) (f : Frame) : State :=
  (s.onTracker b i (Tracker.lock s.now (afterFrame stream))).replaceRecord f

/-! ## What statements about probes share (R99, R151, R153) -/

/-- R151: pump `j` is eligible for a probe. -/
def Eligible (s : State) (j : Nat) : Prop :=
  (∃ x, s.pbc.pumps[j]? = some x ∧ x.state = .active) ∧ ∃ a, s.cfg.feeds j a = true ∧ s.pbc.bypass[a]? ≠ some true

/-- R151: a start attempt on an eligible pump succeeds. -/
def Startable (s : State) (j : Nat) : Prop :=
  (∀ x, s.pbc.pumps[j]? = some x → x.applied = x.target) ∧ s.pru.state = .idle ∧
    probeFlag s.records (s.cfg.position - 1) = none ∧ probeFlag s.records (s.cfg.position + 1) = none

/-- R151: what a start attempt on pump `j` that succeeds does to `s`: a current probe with its members and their pre values,
and a request for PROBE drive. -/
def started (s : State) (j : Nat) (source : ProbeSource) : State :=
  let members := (List.range (2 * s.cfg.n)).filter fun a => s.cfg.feeds j a && decide (s.pbc.bypass[a]? ≠ some true)
  { s with
    pru := { s.pru with state := .starting ⟨j, source, members.map fun a => (a, s.lmu.sOut a)⟩ }
    pbc := { s.pbc with driveRequests := s.pbc.driveRequests ++ [⟨j, false⟩] } }

/-- The gap timer starts when a probe ends: its source is ROUND, or the round turn is WAITING_GAP (R153). -/
def GapFollows (s : State) (pr : Probe) : Prop :=
  ∃ r, s.pru.round = some r ∧ (pr.source = .round ∨ r.turn = .waitingGap)

/-- The settle-until times of pump `j`'s group take the moment `ends`, unless they hold a later one, and the others stand
(R99). -/
def SettleStarted (s t : State) (j : Nat) (ends : Moment) : Prop :=
  t.flt.settle.length = s.flt.settle.length ∧
  ∀ a old, s.flt.settle[a]? = some old →
    t.flt.settle[a]? =
      some (if s.cfg.feeds j a = true then (match old with | some x => some (max x ends) | none => some ends) else old)

/-- The probe on pump `j` is no longer the PRU's, and the result `g` that it gave at its window, noted in the latest request to
restore the pump, which is not yet taken, still stands in the PUMP entry as it was given (R141, R156, log entry 25). -/
def Withdrawable (s : State) (j : Nat) (g : GivenResult) : Prop :=
  (∀ pr w, s.pru.state = .probing pr w → pr.pump ≠ j) ∧ s.flt.pumps[j]? = some g.after ∧
  ∃ earlier later, s.pbc.restores = earlier ++ ⟨j, some g⟩ :: later ∧ ∀ r ∈ later, r.pump ≠ j

/-- What every end of a probe does to the PRU and to the settle-until times, whatever its result (R99, R153). -/
def ProbeEnded (s t : State) (pr : Probe) : Prop :=
  let ends := t.now + 1000 * s.cfg.window
  t.pru =
    { s.pru with
      state := .idle, gap := t.pru.gap, round := t.pru.round } ∧
  (GapFollows s pr → t.pru.gap = some ends ∧ t.pru.round = s.pru.round.map fun r => { r with turn := .waitingGap }) ∧
  (¬ GapFollows s pr → t.pru.gap = s.pru.gap ∧ t.pru.round = s.pru.round) ∧
  SettleStarted s t pr.pump ends

/-- What a refusal and a collision do: the end of the probe, after which a SCHEDULED source leaves no start pending (R154,
R157). -/
def ProbeAborted (s t : State) (pr : Probe) : Prop :=
  ProbeEnded { s with pru := { s.pru with scheduled := if pr.source = .scheduled then false else s.pru.scheduled } } t pr

end Sys2Proof.Machine
end

