-- ==== Sys2Proof/Certificates/Slice0/Obligations.lean ====
section
/-! DEFINITION. The statements for the provers. -/

open Sys2Proof Sys2Proof.Machine

/-! ## Steps, reset and the load -/

/-- A step runs the command at the front of the queue by `exec`, on the state with the queue's rest; and every command, in
every state, answers a next state whose queue is the one it was given. -/
def Obligations.StepRunsTheFrontCommand : Prop :=
  (∀ (c : Instr) (rest : List Instr) (s : State),
    step { s with pending := c :: rest } = exec c { s with pending := rest }) ∧
  ∀ (c : Instr) (s : State), ∃ t, exec c s = .next t ∧ t.pending = s.pending

/-- What reset leaves: R162, R163 (INVALID, no result, no image, clock 0), R16 (meters UNSAMPLED), R24 (SILENT, no tone),
R47 and R65 (banks and trackers IDLE), R61 (both entries ADOPT without an id), R70 (no record), R126 (no table), R146 (every
output at hand-off), R159, R186, R175 (no SPI transaction, SDO not driven); the positions of the bypass switches at power-up
and the role strap value before it is sampled are the model's choices (log entries 3 and 31). -/
def Obligations.ResetHoldsTheColdStartValues : Prop :=
  State.reset.cfl.valid = false ∧ State.reset.cfl.phase = .readingHeader ∧ State.reset.cfl.result = none ∧
  State.reset.cfl.image = [] ∧ State.reset.cfl.clock = 0 ∧ State.reset.cfl.strap = .repeater ∧
  State.reset.lmu.inputs = List.replicate 8 .unsampled ∧ State.reset.lmu.outputs = List.replicate 8 .unsampled ∧
  State.reset.lmu.epoch = none ∧ State.reset.ttx = .silent ∧ State.reset.tone = none ∧
  (∀ b, (State.reset.bank b).state = .idle ∧ (State.reset.bank b).sweep = 0 ∧ (State.reset.bank b).dwell = none ∧
    (State.reset.bank b).confirm = none ∧
    (State.reset.bank b).trackers =
      List.replicate 6 { kind := none, state := .idle, pos := none, failed := 0, sync := none, reception := .hunting,
                                 ahead := [] }) ∧
  State.reset.filter = ⟨⟨.adopt, none⟩, ⟨.adopt, none⟩⟩ ∧ State.reset.records = [] ∧
  State.reset.ownRecord = none ∧ State.reset.flt = ⟨none, [], [], [], [], [], []⟩ ∧
  (∀ j, State.reset.driverPin j = .handOff) ∧ (∀ a, State.reset.bypassPin a = .handOff) ∧
  State.reset.pbc.switches = List.replicate 8 false ∧ State.reset.pbc.demands = [] ∧
  State.reset.pru = ⟨.idle, 0, none, false, none, none⟩ ∧ State.reset.tpt.queue = [] ∧
  State.reset.tpt.overrun = 0 ∧ State.reset.tpt.gap = 0 ∧ State.reset.tpt.causes = ⟨false, false, false, false, false⟩ ∧
  State.reset.tpt.recordTimer = none ∧ State.reset.tpt.absoluteTimer = none ∧ State.reset.tpt.directive = none ∧
  State.reset.tpt.idCounter = 0 ∧ State.reset.attention = none ∧ State.reset.sdo = none ∧ State.reset.spi.bits = none ∧
  State.reset.spi.waiting = [] ∧ State.reset.restarted = none ∧ State.reset.pending = []

/-- Reset satisfies every invariant of the model, so the statements that steps keep them reach every run. -/
def Obligations.ResetSatisfiesEveryInvariant : Prop :=
  Loaded State.reset ∧ Shaped State.reset ∧ MetersInRange State.reset ∧ ScoresSound State.reset ∧
  SpanKindsSound State.reset ∧ PumpsSound State.reset ∧ TargetsCurrent State.reset ∧ TrackersDistinct State.reset ∧ MapsWhole State.reset ∧
  RecordsFollow State.reset ∧ OneProbe State.reset ∧ DemandsDistinct State.reset ∧ MarkerCurrent State.reset ∧
  SupervisoryFed State.reset ∧ QueueBounded State.reset ∧ LatchesAgree State.reset ∧ CapturesEligible State.reset

/-- COLD_START puts every block in its cold-start state at once, whatever was in progress; only the bypass switches
themselves, which latch by themselves, stay where they stand (R146, R163), and an SPI transaction in progress is abandoned,
the levels of the SPI pins being the master's (R175). The model's choices: the timebase starts again at 0 (log entry 1), the
count of free values stands (log entry 4), the role strap value is that of reset until it is sampled (log entry 31), the
queue of commands stands (log entry 10), and the levels of the SPI pins stand with the queue of those to come (log entry
30). -/
def Obligations.ColdStartDiscardsEverything : Prop :=
  ∀ s : State, exec .coldStart s =
    .next { State.reset with
            pbc := { State.reset.pbc with switches := s.pbc.switches }
            spi := { s.spi with bits := none }
            spare := s.spare
            pending := s.pending }

/-- LOAD_BEGIN samples the strap once, low for REPEATER and high for TERMINAL (R188), and starts the station clock at 0
(R163); STATION_CLOCK_TICK then advances it by one and saturates at 2^32-1, and while the part is held at cold start the
clock stays at 0 (R162). That the timebase restarts with the load and reaches the tick's second is the model's choice (log
entry 1). -/
def Obligations.LoadBeginStartsTheClock : Prop :=
  (∀ (strap : Level) (s : State), s.cfl.resetHeld = true →
    exec (.loadBegin strap) s =
      .next { s with
              now := 0
              cfl := { s.cfl with
                       resetHeld := false
                       strap := match strap with | .low => .repeater | .high => .terminal
                       clock := 0
                       phase := .readingHeader } }) ∧
  (∀ s : State, s.cfl.resetHeld = false → s.cfl.clock < 2 ^ 32 - 1 →
    exec .stationClockTick s =
      .next { s with
              now := max s.now (1000 * (s.cfl.clock + 1))
              cfl := { s.cfl with clock := s.cfl.clock + 1 } }) ∧
  (∀ s : State, s.cfl.resetHeld = false → s.cfl.clock = 2 ^ 32 - 1 →
    exec .stationClockTick s = .next { s with now := max s.now (1000 * 2 ^ 32) }) ∧
  ∀ s : State, s.cfl.resetHeld = true → exec .stationClockTick s = .next s

/-- Word 0 decides, magic before length (R165). The transaction on the two-wire port is that of R164, for byte addresses 0
and 1 and then, in READING_BODY, for 2 to 2N+1; and its levels are those of R164: MSDA falls at a start and rises at a stop
while MSCL is high, a byte is sent most significant bit first, an acknowledge is MSDA low through the ninth clock, and but
for the conditions MSDA changes only while MSCL is low. The model's choices: it keeps the transaction in `Cfl.bus`, tells
three moments of a clock, and lets a released bus stand high (log entry 11); bytes beyond a read are not taken, and a reply
shorter than its read changes nothing (log entry 19). -/
def Obligations.HeaderIsJudgedBeforeTheBody : Prop :=
  let read (address : Byte) (data : List BusSymbol) : List BusSymbol :=
    [.start, .sent 0xAC, .acked, .sent address, .acked, .repeatedStart, .sent 0xAD, .acked] ++ data ++ [.stop]
  let clock (d : Level) : List Wires := [⟨.low, d⟩, ⟨.high, d⟩, ⟨.low, d⟩]
  let byte (b : Byte) : List Wires := (List.range 8).flatMap fun i => clock (if b.toNat.testBit (7 - i) then .high else .low)
  (∀ (hi lo : Byte) (rest : List Byte) (s : State), s.cfl.resetHeld = false → s.cfl.phase = .readingHeader →
    ∃ x : Cfl, exec (.readingHeader (.data (hi :: lo :: rest))) s = .next { s with cfl := x } ∧
      x.bus = read 0x00 [.received hi, .ackSent, .received lo, .ackWithheld] ∧
      x.resetHeld = false ∧ x.strap = s.cfl.strap ∧ x.valid = s.cfl.valid ∧ x.clock = s.cfl.clock ∧
      (hi ≠ 0x9D → x.phase = .done ∧ x.result = some .badMagic ∧ x.image = []) ∧
      (hi = 0x9D → (lo.toNat < 24 ∨ 120 < lo.toNat) →
        x.phase = .done ∧ x.result = some .badLength ∧ x.image = []) ∧
      (hi = 0x9D → 24 ≤ lo.toNat → lo.toNat ≤ 120 →
        x.phase = .readingBody ∧ x.image = [hi ++ lo] ∧ x.result = s.cfl.result)) ∧
  (∀ (bytes : List Byte) (header : Word) (s : State), s.cfl.resetHeld = false →
    s.cfl.phase = .readingBody → s.cfl.image = [header] →
    let count := 2 * (header.toNat % 256)
    (bytes.length = count →
      ∃ x : Cfl, exec (.readingBody (.data bytes)) s = .next { s with cfl := x } ∧
        x.bus = read 0x02 ((List.range count).flatMap fun i =>
          [.received (bytes.getD i 0), if i + 1 = count then .ackWithheld else .ackSent])) ∧
    (count ≤ bytes.length →
      exec (.readingBody (.data bytes)) s = exec (.readingBody (.data (bytes.take count))) s) ∧
    (bytes.length < count → exec (.readingBody (.data bytes)) s = .next s)) ∧
  (∀ (bytes : List Byte) (s : State), s.cfl.resetHeld = false → s.cfl.phase = .readingHeader → bytes.length < 2 →
    exec (.readingHeader (.data bytes)) s = .next s) ∧
  (∀ x : Cfl, x.wires = x.bus.flatMap BusSymbol.wires) ∧
  BusSymbol.start.wires = [⟨.high, .high⟩, ⟨.high, .low⟩, ⟨.low, .low⟩] ∧
  BusSymbol.repeatedStart.wires = [⟨.low, .high⟩, ⟨.high, .high⟩, ⟨.high, .low⟩, ⟨.low, .low⟩] ∧
  BusSymbol.stop.wires = [⟨.low, .low⟩, ⟨.high, .low⟩, ⟨.high, .high⟩] ∧
  (∀ b, (BusSymbol.sent b).wires = byte b ∧ (BusSymbol.received b).wires = byte b) ∧
  BusSymbol.acked.wires = clock .low ∧ BusSymbol.ackSent.wires = clock .low ∧
  BusSymbol.notAcked.wires = clock .high ∧ BusSymbol.ackWithheld.wires = clock .high ∧
  BusSymbol.released.wires = [⟨.high, .high⟩] ∧
  ∀ x : BusSymbol, x ≠ .start → x ≠ .repeatedStart → x ≠ .stop → ∀ (i : Nat) (u v : Wires),
    x.wires[i]? = some u → x.wires[i + 1]? = some v → u.msda ≠ v.msda → u.mscl = .low ∧ v.mscl = .low

/-- R164: a memory that withholds an acknowledge, and a word whose transfer takes longer than 10 ms, end the load with
result ABSENT, in either transaction.  The symbols on the bus up to the missing acknowledge are those that R164 lists; that
the list ends there, and that a transfer that took too long leaves one symbol, the bus released, are the model's choices
(log entry 11). -/
def Obligations.UnansweredReadsEndAbsent : Prop :=
  ∀ s : State, s.cfl.resetHeld = false →
    (∀ (address : Byte) (read : BusReply → Instr),
      (s.cfl.phase = .readingHeader ∧ address = 0x00 ∧ read = Instr.readingHeader ∨
        s.cfl.phase = .readingBody ∧ address = 0x02 ∧ read = Instr.readingBody) →
      exec (read .noAckDevice) s =
        .next { s with
                cfl := { s.cfl with phase := .done, result := some .absent, image := [],
                                    bus := [.start, .sent 0xAC, .notAcked] } } ∧
      exec (read .noAckAddress) s =
        .next { s with
                cfl := { s.cfl with phase := .done, result := some .absent, image := [],
                                    bus := [.start, .sent 0xAC, .acked, .sent address, .notAcked] } } ∧
      exec (read .noAckRead) s =
        .next { s with
                cfl := { s.cfl with phase := .done, result := some .absent, image := [],
                                    bus := [.start, .sent 0xAC, .acked, .sent address, .acked, .repeatedStart,
                                      .sent 0xAD, .notAcked] } }) ∧
    (s.cfl.phase = .readingHeader ∨ s.cfl.phase = .readingBody →
      exec .wordTransferTimeout s =
        .next { s with
                cfl := { s.cfl with phase := .done, result := some .absent, image := [], bus := [.released] } })

/-- R166: the ones'-complement sum of words 0 to N, end-around carries included, must be 0xFFFF, or the load ends with
BAD_CHECKSUM; `endAround` is that sum in closed form, for a plain sum.  A check word that is the bitwise inverse of the
end-around sum of the words before it makes the sum come out right. -/
def Obligations.ChecksumMustBeAllOnes : Prop :=
  let endAround (total : Nat) : Nat := if total = 0 then 0 else (total - 1) % 0xFFFF + 1
  let total (ws : List Word) : Nat := (ws.map BitVec.toNat).sum
  (∀ ws : List Word, onesSum ws = endAround (total ws) ∧
    endAround (total (ws ++ [~~~ BitVec.ofNat 16 (endAround (total ws))])) = 0xFFFF) ∧
  ∀ (bytes : List Byte) (header : Word) (s : State), s.cfl.resetHeld = false →
    s.cfl.phase = .readingBody → s.cfl.image = [header] →
    bytes.length = 2 * (header.toNat % 256) →
    let image := header :: wordsOf bytes
    ∃ x : Cfl, exec (.readingBody (.data bytes)) s = .next { s with cfl := x } ∧
      image.length = header.toNat % 256 + 1 ∧
      x.resetHeld = false ∧ x.strap = s.cfl.strap ∧ x.valid = s.cfl.valid ∧ x.clock = s.cfl.clock ∧
      (endAround (total image) ≠ 0xFFFF → x.phase = .done ∧ x.result = some .badChecksum ∧ x.image = []) ∧
      (endAround (total image) = 0xFFFF → x.phase = .sampling ∨ ∃ k, x.result = some (.badField k))

/-- R190: each field is read from the bits of its word that the map gives it, unsigned or in two's complement, of every
image that holds the words of the map; the supervisory pair names its two amplifiers (R14, R35), a pump feeds those of its
group mask below 2n, and groups intersect where they share one (R129). R167: what each of the sixteen checks asks, applied
in ascending order once the checksum has passed: the first that fails ends the load with BAD_FIELD and its number, and a
record that passes them all leads to SAMPLING (R168). -/
def Obligations.SixteenChecksDecideARecord : Prop :=
  (∀ (bytes : List Byte) (i : Nat) (hi lo : Byte), bytes[2 * i]? = some hi → bytes[2 * i + 1]? = some lo →
    (wordsOf bytes)[i]? = some (hi ++ lo)) ∧
  (∀ s : State, s.cfg = readCommissioning s.cfl.image) ∧
  (∀ image : List Word,
    let c := readCommissioning image
    let w (i : Nat) : Nat := (image.getD i 0).toNat
    let signed (i : Nat) : Int := if w i < 2 ^ 15 then (w i : Int) else (w i : Int) - 2 ^ 16
    let n := w 1 / 16 % 8
    let m := w 1 % 8
    let pump (j i : Nat) : Nat := w (25 + 8 * n + 5 * j + i)
    25 + 8 * n + 5 * m < image.length →
    c.magic = w 0 / 256 ∧ c.length = w 0 % 256 ∧ c.position = w 1 / 256 ∧
    c.role = (if (w 1).testBit 7 then .terminal else .repeater) ∧ c.n = n ∧ c.m = m ∧
    c.west = w 2 / 256 ∧ c.east = w 2 % 256 ∧ c.supPair = w 3 / 256 ∧ c.shift = w 3 % 256 ∧
    (∀ q, 1 ≤ q → q ≤ 254 →
      let sector := (q - 1) / 4
      c.interested q = (w (4 + sector / 16)).testBit (sector % 16)) ∧
    c.td = signed 8 ∧ c.tf = signed 9 ∧ c.tl = signed 10 ∧ c.tsHi = signed 11 ∧ c.tsLo = signed 12 ∧
    c.tgHi = signed 13 ∧ c.tgLo = signed 14 ∧ c.tr = w 15 ∧ c.ws = w 16 / 2 ^ 12 ∧ c.wg = w 16 / 2 ^ 8 % 16 ∧
    c.ampIsolation = (w 16).testBit 7 ∧ c.pumpIsolation = (w 16).testBit 6 ∧ c.wp = w 16 % 64 ∧
    c.ls = w 17 / 256 ∧ c.ld = w 17 % 256 ∧ c.lr = w 18 / 256 ∧ c.stale = w 18 % 256 ∧ c.ti = w 19 ∧
    c.c = w 20 / 256 ∧ c.rinc = w 20 % 256 ∧ c.interval = w 21 ∧ c.window = w 22 / 256 ∧ c.dither = w 22 % 256 ∧
    c.rmin = w 23 ∧ c.tq = w 24 / 256 ∧ c.lowSpace = w 24 % 256 ∧
    c.refs = (List.range (2 * n)).map (fun a =>
      { gref := signed (25 + 4 * a), oref := signed (26 + 4 * a), lref := signed (27 + 4 * a),
        lskip := signed (28 + 4 * a) }) ∧
    c.pumps = (List.range m).map (fun j =>
      { mask := BitVec.ofNat 8 (pump j 0 / 256), stepSize := pump j 0 % 256, remapOff := (pump j 1).testBit 15,
        interval := pump j 1 / 2 ^ 10 % 32, base := pump j 1 % 2 ^ 10, retain := (pump j 2).testBit 15,
        floor := pump j 2 % 2 ^ 10, ceiling := pump j 3 % 2 ^ 10, depth := pump j 4 % 2 ^ 10 }) ∧
    c.supAmp .e = 2 * (w 3 / 256 - 1) ∧ c.supAmp .w = 2 * (w 3 / 256 - 1) + 1 ∧
    (∀ j < m, c.pumps[j]? = some (c.pump j) ∧
      ∀ a, c.feeds j a = (decide (a < 2 * n) && (pump j 0 / 256).testBit a)) ∧
    (∀ j a, m ≤ j → c.feeds j a = false) ∧
    ∀ i j, c.intersects i j = true ↔ ∃ a, c.feeds i a = true ∧ c.feeds j a = true) ∧
  ∀ (bytes : List Byte) (header : Word) (s : State), s.cfl.resetHeld = false →
    s.cfl.phase = .readingBody → s.cfl.image = [header] →
    bytes.length = 2 * (header.toNat % 256) →
    let image := header :: wordsOf bytes
    onesSum image = 0xFFFF →
    let c := readCommissioning image
    let within (lo hi x : Int) : Prop := lo ≤ x ∧ x ≤ hi
    let passes : Nat → Prop
      | 1 => c.role = s.cfl.strap
      | 2 => 1 ≤ c.west ∧ c.west < c.east ∧ c.east ≤ 254
      | 3 => (c.role = .repeater → c.west < c.position ∧ c.position < c.east) ∧
          (c.role = .terminal → c.position = c.west ∨ c.position = c.east)
      | 4 => within 1 4 c.n ∧ within 1 4 c.m ∧ within 1 c.n c.supPair
      | 5 => c.length = 25 + 8 * c.n + 5 * c.m
      | 6 => c.shift ≤ 6
      | 7 => -6000 < c.td ∧ c.td < c.tf ∧ c.tf < c.tl ∧ c.tl ≤ 2950
      | 8 => within 4 60 c.stale
      | 9 => ∃ i, within 1 10 i ∧ (c.dither : Int) = 2 * i
      | 10 => within (-2000) 2000 c.tsHi ∧ within (-2000) 2000 c.tsLo ∧ within (-2000) 2000 c.tgHi ∧
          within (-2000) 2000 c.tgLo ∧ within 0 2000 c.tr ∧ c.tsLo < c.tsHi ∧ c.tgLo < c.tgHi
      | 11 => within 1 15 c.ws ∧ within 1 15 c.wg ∧ within 1 63 c.wp ∧ within 1 255 c.ls ∧ within 1 255 c.ld ∧
          within 0 254 c.lr ∧ c.ls ≤ c.ld ∧ c.lr < c.ld ∧ within 0 2000 c.ti
      | 12 => ∀ a < 2 * c.n, ∃ r, c.refs[a]? = some r ∧ within (-9000) 9000 r.gref ∧ within (-6000) 3000 r.oref ∧
          within (-1000) 6000 r.lref ∧ within (-1000) 6000 r.lskip
      | 13 => ∀ j < c.m, ∃ p, c.pumps[j]? = some p ∧ p.floor ≤ p.base ∧ p.base ≤ p.ceiling ∧ p.ceiling ≤ 1000 ∧
          within 1 255 p.stepSize ∧ within 1 500 p.depth
      | 14 => ∀ a, a = 2 * (c.supPair - 1) ∨ a = 2 * (c.supPair - 1) + 1 →
          a < 2 * c.n ∧ ∃ j p, j < c.m ∧ c.pumps[j]? = some p ∧ p.mask.getLsbD a = true
      | 15 => within 0 255 c.c ∧ within 0 255 c.rinc ∧ (c.interval = 0 ∨ within 60 3600 c.interval) ∧
          within 1 10 c.window ∧ within 1 1000 c.rmin
      | 16 => within 0 255 c.tq ∧ within 0 64 c.lowSpace
      | _ => False
    ∃ x : Cfl, exec (.readingBody (.data bytes)) s = .next { s with cfl := x } ∧
      (∀ k, 1 ≤ k → k ≤ 16 → ¬ passes k → (∀ i, 1 ≤ i → i < k → passes i) →
        x.phase = .done ∧ x.result = some (.badField k) ∧ x.image = [] ∧ x.valid = s.cfl.valid) ∧
      ((∀ i, 1 ≤ i → i ≤ 16 → passes i) →
        x.phase = .sampling ∧ x.result = s.cfl.result ∧ x.image = image ∧ x.valid = s.cfl.valid)

/-! ## The declaration of VALID -/

/-- DECLARE_VALID: the load ends OK and the configuration is VALID (R168); every in-use meter takes its first reading,
clamped, as its last and smoothed value, an input meter with the class of R12, and the others are OUT_OF_USE (R2, R4, R5);
the sample epoch timer runs (R3); the TTX begins its reference bit (R23, R24); the PRU stands as R159 says.  The filter, the
port and every command still waiting are as they were. -/
def Obligations.DeclareTakesTheFirstSampleSet : Prop :=
  ∀ (raw : Readings) (s : State), s.cfl.resetHeld = false → s.cfl.phase = .sampling →
    ∃ t, exec (.declareValid raw) s = .next t ∧
      t = { s with
            cfl := { s.cfl with result := some .ok, phase := .done, valid := true }
            lmu := t.lmu
            ttx := t.ttx
            rbe := t.rbe
            rbw := t.rbw
            records := t.records
            flt := t.flt
            pbc := t.pbc
            pru := ⟨.idle, 0, if s.cfg.interval = 0 then none else some (s.now + 1000 * s.cfg.interval), false, none, none⟩ } ∧
      t.lmu.epoch = some (s.now + 100) ∧ t.lmu.inputs.length = 8 ∧ t.lmu.outputs.length = 8 ∧
      (∀ (a : Nat) (h : a < 8),
        let rIn := max (-6000) (min 3000 raw.input[a])
        let rOut := max (-6000) (min 3000 raw.output[a])
        let cls : LightClass :=
          if s.cfg.tl ≤ rIn then .nominal else if s.cfg.tf ≤ rIn then .low else if s.cfg.td ≤ rIn then .faint else .dark
        t.lmu.inputs[a]? = some (if a < 2 * s.cfg.n then .tracking rIn rIn cls else .outOfUse) ∧
        t.lmu.outputs[a]? = some (if a < 2 * s.cfg.n then .tracking rOut rOut else .outOfUse)) ∧
      ∃ marker, t.ttx = .sending { marker := marker, frame := none, ends := s.now + 8, reversed := false }

/-- DECLARE_VALID, the PBC and the FLT. R147: every switch in-line, every latch clear, no demand, every pump ACTIVE from its
floor with its base as target, ramping unless its step interval is 0, when it jumps (R133). R126 with R109 and R113: every
entry CLEAR at 0 but for the span of a dark input, the marks from the present classes; R87 and R99: references from the
record, no settle-until time; R95, R96: the flags as last seen of the positions that can supply a basis clear, without a
quiet-until time; R85: the first epoch after 3 s. No request waits after a load (R126, R146, R159). The marker shows ALARM
exactly when an input is DARK. -/
def Obligations.DeclareStartsThePumpsAndTheTable : Prop :=
  ∀ (raw : Readings) (s : State), s.cfl.resetHeld = false → s.cfl.phase = .sampling → s.commissioned →
    let c := s.cfg
    ∃ t, exec (.declareValid raw) s = .next t ∧
      (∀ j < c.m, t.pbc.pumps[j]? =
        some { state := .active, target := (c.pump j).base,
               applied := if (c.pump j).interval = 0 then (c.pump j).base else (c.pump j).floor,
               latch := false, preProbe := none,
               step := if (c.pump j).interval ≠ 0 ∧ (c.pump j).floor < (c.pump j).base
                       then some (s.now + 10 * (c.pump j).interval) else none }) ∧
      t.pbc.pumps.length = c.m ∧ t.pbc.bypass = List.replicate (2 * c.n) false ∧
      t.pbc.switches = List.replicate 8 false ∧ t.pbc.demands = [] ∧
      t.pbc.isolations = s.pbc.isolations ∧ t.pbc.driveRequests = s.pbc.driveRequests ∧
      t.pbc.restores = s.pbc.restores ∧
      (Loaded s → t.pbc.isolations = [] ∧ t.pbc.driveRequests = [] ∧ t.pbc.restores = []) ∧
      t.flt.quiet = ([c.position - 1, c.position - 2, c.position + 1, c.position + 2].filter
        fun q => decide (1 ≤ q ∧ q ≤ 254)).map (fun q => ⟨q, false, none⟩) ∧
      t.flt.epoch = some (s.now + 3000) ∧ t.flt.refs = c.refs ∧ t.flt.settle = List.replicate (2 * c.n) none ∧
      t.flt.spans.length = 2 * c.n ∧ t.flt.amps.length = 2 * c.n ∧
      (∀ a < 2 * c.n, ∀ cls, t.lmu.cls? a = some cls →
        t.flt.spans[a]? =
          some (if cls = .dark then ⟨255, .faulty, .lossOfLight, s.cfl.clock, .none⟩
                else ⟨0, .clear, .none, s.cfl.clock, .none⟩) ∧
        t.flt.amps[a]? = some ⟨0, .clear, .none, s.cfl.clock, false, cls == .dark || cls == .faint⟩) ∧
      t.flt.pumps = List.replicate c.m ⟨0, .clear, .none, s.cfl.clock, false, false, false⟩ ∧
      ∃ x, t.ttx = .sending x ∧
        ((∃ a < 2 * c.n, t.lmu.cls? a = some .dark) → x.marker = .alarm) ∧
        ((∀ a < 2 * c.n, t.lmu.cls? a ≠ some .dark) → x.marker = .nominal)

/-- DECLARE_VALID, the receive banks.  R35, R40, R42: the map of a bank's side all SILENT, DARK_WATCH with every entry HELD
if its supervisory input is DARK, otherwise RUNNING with a sweep begun at the first position; R55: the candidates that are
on the side and within the line, without repeats, pinned to the lowest-numbered trackers, the others an IDLE capture pool;
R45: a TERMINAL station's outbound bank stays as it was, its six trackers lent to the other; R72: one VACANT record for
each pinned position. -/
def Obligations.DeclareStartsTheBanks : Prop :=
  ∀ (raw : Readings) (s : State), s.cfl.resetHeld = false → s.cfl.phase = .sampling →
    let c := s.cfg
    let p := c.position
    let side : Bank → List Nat
      | .e => List.range' 1 (p - 1)
      | .w => (List.range' (p + 1) (254 - p)).reverse
    let candidates : Bank → List Nat
      | .e => [p - 1, p - 2, c.west]
      | .w => [p + 1, p + 2, c.east]
    let pins (b : Bank) : List Nat :=
      ((candidates b).filter fun q => decide (q ∈ side b ∧ c.west ≤ q ∧ q ≤ c.east)).eraseDups
    let outbound (b : Bank) : Bool := decide (c.role = .terminal ∧ (b = .e ↔ p = c.west))
    let vacant (b : Bank) (q : Nat) : Neighbour := ⟨q, b, .vacant, 0, s.now, none⟩
    ∃ t, exec (.declareValid raw) s = .next t ∧
      (∀ b, outbound b = true →
        t.bank b = { s.bank b with map := (side b).map fun q => ⟨q, .silent, none, 0, false⟩, trackers := [] }) ∧
      (∀ b dark, outbound b = false → dark = decide (t.lmu.cls? (c.supAmp b) = some .dark) →
        t.bank b =
          { state := if dark then .darkWatch else .running
            map := (side b).map fun q => ⟨q, .silent, none, 0, dark⟩
            sweep := if dark then (s.bank b).sweep else min ((s.bank b).sweep + 1) (2 ^ 32 - 1)
            dwell := if dark then none else (side b).head?.map fun q => ⟨q, s.now + 50⟩
            confirm := none
            trackers := (List.range (if c.role = .terminal then 12 else 6)).map fun i =>
              match (pins b)[i]? with
              | some q => ⟨some .pinned, .acquiring, some q, 0, none, .hunting, []⟩
              | none => ⟨some .capture, .idle, none, 0, none, .hunting, []⟩ }) ∧
      t.records =
        (if outbound .e then [] else (pins .e).map (vacant .e)) ++
          (if outbound .w then [] else (pins .w).map (vacant .w))

/-! ## Sample sets -/

/-- SAMPLE_SET: every meter in TRACKING holds the clamped reading (R4) and smooths it by R6's step, (d + 2^(k-1)) / 2^k
rounded down, or takes it whole for k = 0; the timer runs on by 100 ms (R3). Only the meters, the FLT, the banks and the
marker can change, and the marker is that of the conditions afterwards, while the frame in progress stands (R19, R25). How
far the timebase has moved is the model's choice (log entry 1). -/
def Obligations.SampleSetSmoothsEveryMeter : Prop :=
  ∀ (raw : Readings) (d : Moment) (s : State), s.lmu.epoch = some d →
    let k := s.cfg.shift
    let smoothed (old r : Int) : Int := if k = 0 then r else old + (r - old + 2 ^ (k - 1)) / 2 ^ k
    ∃ t, exec (.sampleSet raw) s = .next t ∧
      t = { s with now := max s.now d, lmu := t.lmu, flt := t.flt, rbe := t.rbe, rbw := t.rbw, ttx := t.ttx } ∧
      MarkerFollows s t ∧ t.lmu.epoch = some (d + 100) ∧
      ∀ (a : Nat) (h : a < 8),
        let rIn := max (-6000) (min 3000 raw.input[a])
        let rOut := max (-6000) (min 3000 raw.output[a])
        (∀ last old cls, s.lmu.inputs[a]? = some (.tracking last old cls) →
          ∃ cls', t.lmu.inputs[a]? = some (.tracking rIn (smoothed old rIn) cls')) ∧
        (∀ last old, s.lmu.outputs[a]? = some (.tracking last old) →
          t.lmu.outputs[a]? = some (.tracking rOut (smoothed old rOut))) ∧
        (s.lmu.inputs[a]? = some .outOfUse → t.lmu.inputs[a]? = some .outOfUse) ∧
        (s.lmu.outputs[a]? = some .outOfUse → t.lmu.outputs[a]? = some .outOfUse)

/-- R7: one smoothing step never carries the value past the reading it moves toward, for every shift. -/
def Obligations.SmoothingNeverOvershoots : Prop :=
  ∀ (k : Nat) (old r : Int),
    (old < r → old ≤ smooth k old r ∧ smooth k old r ≤ r) ∧
    (r < old → r ≤ smooth k old r ∧ smooth k old r ≤ old) ∧
    (r = old → smooth k old r = old)

/-- R11, in every sample set after the first: fall to the highest class whose lower threshold is at or below the new
smoothed value, or to DARK; else rise to the highest of the higher classes whose threshold plus 50 is at or below it; else
hold. -/
def Obligations.ClassFallsAtOnceAndRisesWithHysteresis : Prop :=
  ∀ (raw : Readings) (d : Moment) (s : State) (a : Nat) (last old : Int) (cls : LightClass), s.lmu.epoch = some d → a < 8 →
    s.lmu.inputs[a]? = some (.tracking last old cls) → s.cfg.td < s.cfg.tf → s.cfg.tf < s.cfg.tl →
    let lower : LightClass → Option Int
      | .dark => none
      | .faint => some s.cfg.td
      | .low => some s.cfg.tf
      | .nominal => some s.cfg.tl
    ∃ t r v new, exec (.sampleSet raw) s = .next t ∧ t.lmu.inputs[a]? = some (.tracking r v new) ∧
      let fall : Prop := ∃ θ, lower cls = some θ ∧ v < θ
      let above (x : LightClass) : Prop := cls.rank < x.rank ∧ ∃ θ, lower x = some θ ∧ θ + 50 ≤ v
      (fall →
        (new = .dark ∨ ∃ θ, lower new = some θ ∧ θ ≤ v) ∧ ∀ x θ, lower x = some θ → θ ≤ v → x.rank ≤ new.rank) ∧
      (¬ fall → (∃ x, above x) → above new ∧ ∀ x, above x → x.rank ≤ new.rank) ∧
      (¬ fall → (¬ ∃ x, above x) → new = cls)

/-- What each class-change event does: the FLT declares loss of light on a span whose input becomes DARK (R109) and ends it
on one that leaves DARK (R110), and sets the input-low mark (R113); the bank of the supervisory input enters dark watch,
starts or abandons its wake confirmation (R36, R37); that a tracker drops the bits not yet worked on at the entry is the
model's choice (log entry 8). A meter whose class is unchanged raises no event (R13). How far the timebase has moved is the
model's choice (log entry 1). -/
def Obligations.ClassChangesReachTheTableAndTheBanks : Prop :=
  ∀ (raw : Readings) (d : Moment) (s : State), s.lmu.epoch = some d →
    ∃ t, exec (.sampleSet raw) s = .next t ∧
      (∀ a x y, s.lmu.cls? a = some x → t.lmu.cls? a = some y →
        (∀ e, s.flt.spans[a]? = some e →
          t.flt.spans[a]? =
            some (if x ≠ y ∧ y = .dark then
                    { e with score := 255, state := .faulty, kind := .lossOfLight,
                             since := if e.state = .faulty then e.since else s.cfl.clock }
                  else if x ≠ y ∧ x = .dark then
                    { e with score := s.cfg.ls, state := .suspect, kind := .none, since := s.cfl.clock }
                  else e)) ∧
        ∀ e, s.flt.amps[a]? = some e →
          t.flt.amps[a]? = some (if x = y then e else { e with inputLow := y == .dark || y == .faint })) ∧
      (∀ b x y, s.lmu.cls? (s.cfg.supAmp b) = some x → t.lmu.cls? (s.cfg.supAmp b) = some y →
        (x = y → t.bank b = s.bank b) ∧
        (x ≠ y → y = .dark → (s.bank b).state = .running →
          t.bank b =
            { s.bank b with
              state := .darkWatch
              dwell := none
              confirm := none
              map := (s.bank b).map.map fun e => { e with held := true, pending := none }
              trackers := (s.bank b).trackers.map fun k =>
                if k.state = .idle then k
                else { k with state := .acquiring, failed := 0, sync := none, reception := .hunting, ahead := [] } }) ∧
        (x ≠ y → y = .dark → (s.bank b).state = .wakePending →
          t.bank b = { s.bank b with state := .darkWatch, confirm := none }) ∧
        (x ≠ y → y ≠ .dark → (s.bank b).state = .darkWatch →
          t.bank b = { s.bank b with state := .wakePending, confirm := some (max s.now d + 2000) }) ∧
        (y ≠ .dark → (s.bank b).state ≠ .darkWatch → t.bank b = s.bank b) ∧
        ((s.bank b).state = .idle → t.bank b = s.bank b)) ∧
      t.flt.epoch = s.flt.epoch ∧ t.flt.pumps = s.flt.pumps ∧ t.flt.refs = s.flt.refs ∧ t.flt.settle = s.flt.settle ∧ t.flt.quiet = s.flt.quiet

/-! ## Receive banks and trackers -/

/-- R38: the bank enters RUNNING with every HELD mark cleared and the classes kept, a new sweep begins at the bank's first
position, and its trackers hunt again, those in mid-frame in the bits that follow its sync, which is the model's choice (log
entry 8). How far the timebase has moved is the model's choice (log entry 1). -/
def Obligations.ConfirmedWakeResumesTheSweep : Prop :=
  ∀ (b : Bank) (d : Moment) (s : State), (s.bank b).state = .wakePending → (s.bank b).confirm = some d →
    exec (.confirmationTimerExpiry b) s =
      .next (State.setBank { s with now := max s.now d } b
        { state := .running
          map := (s.bank b).map.map fun e => { e with held := false }
          sweep := min ((s.bank b).sweep + 1) (2 ^ 32 - 1)
          dwell :=
            match b with
            | .e => if 1 < s.cfg.position then some ⟨1, max s.now d + 50⟩ else none
            | .w => if s.cfg.position < 254 then some ⟨254, max s.now d + 50⟩ else none
          confirm := none
          trackers := (s.bank b).trackers.map fun k => { k with reception := .hunting } })

/-- R41: SILENT if no offset reaches the threshold, otherwise the marker of the largest depth, and among equal largest
depths the one of highest marker priority.  The threshold of 0.05 % is 500 in the model's unit (log entry 5). -/
def Obligations.ObservedClassIsTheDeepestMarker : Prop :=
  ∀ (d : Depths) (m : Marker),
    let depth : Marker → Nat
      | .isolated => d.isolated | .alarm => d.alarm | .probing => d.probing | .nominal => d.nominal
    let priority : Marker → Nat
      | .isolated => 3 | .alarm => 2 | .probing => 1 | .nominal => 0
    let presence : Marker → Presence
      | .isolated => .isolated | .alarm => .alarm | .probing => .probing | .nominal => .nominal
    ((∀ x, depth x < 500) ↔ observedClass d = .silent) ∧
    (500 ≤ depth m → (∀ x, x ≠ m → depth x < depth m ∨ depth x = depth m ∧ priority x < priority m) →
      observedClass d = presence m)

/-- DWELL_COMPLETE: R43's table on the entry of the position visited, every other entry as it was; R40's sweep moves to the
next position without a gap, or begins again with the sweep number raised; an observation that confirms no change touches
nothing else; one that does is offered to the Record Queue of a TERMINAL station (R44, R181). How far the timebase has moved
is the model's choice (log entry 1). -/
def Obligations.DwellUpdatesTheMapAndTheSweep : Prop :=
  ∀ (b : Bank) (d : Depths) (w : Dwell) (s : State), (s.bank b).state = .running → (s.bank b).dwell = some w →
    let x := s.bank b
    let o := observedClass d
    let p := s.cfg.position
    let next : Option Nat :=
      match b with
      | .e => if w.pos + 1 < p then some (w.pos + 1) else none
      | .w => if p + 1 < w.pos then some (w.pos - 1) else none
    let first : Option Nat :=
      match b with
      | .e => if 1 < p then some 1 else none
      | .w => if p < 254 then some 254 else none
    ∃ t, exec (.dwellComplete b d) s = .next t ∧
      t = { s with now := max s.now w.ends, rbe := t.rbe, rbw := t.rbw, records := t.records, pbc := t.pbc, tpt := t.tpt } ∧
      (∀ b', b' ≠ b → t.bank b' = s.bank b') ∧
      (t.bank b).state = .running ∧ (t.bank b).confirm = x.confirm ∧
      (t.bank b).map = x.map.map (fun e =>
        if e.pos ≠ w.pos then e
        else if o = e.confirmed then { e with pending := none }
        else if e.pending = some o then { e with confirmed := o, pending := none, lastChange := x.sweep }
        else { e with pending := some o }) ∧
      (∀ q, next = some q → (t.bank b).dwell = some ⟨q, w.ends + 50⟩ ∧ (t.bank b).sweep = x.sweep) ∧
      (next = none →
        (t.bank b).dwell = first.map (fun q => ⟨q, w.ends + 50⟩) ∧
          (t.bank b).sweep = min (x.sweep + 1) (2 ^ 32 - 1)) ∧
      ((∀ e ∈ x.map, e.pos = w.pos → o = e.confirmed ∨ e.pending ≠ some o) →
        (t.bank b).trackers = x.trackers ∧ t.records = s.records ∧ t.pbc = s.pbc ∧ t.tpt = s.tpt) ∧
      ∀ e, findEntry x.map w.pos = some e → o ≠ e.confirmed → e.pending = some o →
        t.tpt =
          if s.cfl.valid = true ∧ s.cfg.role = .terminal then
            s.tpt.offer s.cfg (max s.now w.ends) s.cfl.clock w.pos (.presence e.confirmed o)
          else s.tpt

/-- R57, R58: after a presence-change event the captures of the bank are the nearest of its eligible positions, as many as
its pool allows: each is eligible, by R56's four conditions on side, pinned positions, interest vector and confirmed class,
HELD or not, and an eligible position that is left out finds no CAPTURE tracker IDLE and every capture
nearer than itself. No position is assigned twice (L4), and the pinned trackers keep theirs; a CAPTURE tracker that keeps
its position is untouched, and one that loses it or takes another starts afresh (R59). R72, R78: the record of a new capture
is VACANT at age 0, that of a released one is gone, and the other records stand. R143, R144: the entries drawn from a
released record are gone and the others stand, and every target is that of R132's sum where it was so before; the rest of
the PBC stands. -/
def Obligations.CapturesAreTheNearestEligible : Prop :=
  (∀ (c : Commissioning) (b : Bank) (x : RxBank) (q : Nat), x.map.map MapEntry.pos = sidePositions c.position b →
    let onSide : Prop := b = .e ∧ 1 ≤ q ∧ q < c.position ∨ b = .w ∧ c.position < q ∧ q ≤ 254
    let pinned : Prop := ∃ k ∈ x.trackers, k.kind = some .pinned ∧ k.pos = some q
    let sector := (q - 1) / 4
    let interest : Prop := ∃ word, c.interest[sector / 16]? = some word ∧ word.toNat.testBit (sector % 16) = true
    let alarming : Prop := ∃ e ∈ x.map, e.pos = q ∧ (e.confirmed = .alarm ∨ e.confirmed = .isolated)
    x.eligible c q = true ↔ onSide ∧ ¬ pinned ∧ interest ∧ alarming) ∧
  ∀ (b : Bank) (d : Depths) (w : Dwell) (e : MapEntry) (s : State), (s.bank b).state = .running →
    (s.bank b).dwell = some w → (s.bank b).map.map MapEntry.pos = sidePositions s.cfg.position b →
    (s.bank b).distinct s.cfg.position b → (s.bank b).capturesEligible s.cfg →
    findEntry (s.bank b).map w.pos = some e → observedClass d ≠ e.confirmed → e.pending = some (observedClass d) →
    let source (a : Nat) : DemandReason → Nat
      | .upstreamBypassed => if a % 2 = 0 then s.cfg.position - 1 else s.cfg.position + 1
      | .downstreamBypassed => if a % 2 = 0 then s.cfg.position + 1 else s.cfg.position - 1
    let farness (q : Nat) : Nat := max q s.cfg.position - min q s.cfg.position
    let captured (u : State) (q : Nat) : Bool :=
      (u.bank b).trackers.any fun k => decide (k.kind = some .capture ∧ k.pos = some q)
    ∃ t, exec (.dwellComplete b d) s = .next t ∧
      (let released (q : Nat) : Bool := captured s q && !captured t q
       (∀ q, captured s q = false → captured t q = true → findRecord s.records q = none →
         findRecord t.records q = some ⟨q, b, .vacant, 0, t.now, none⟩) ∧
       (∀ q, released q = true → findRecord t.records q = none) ∧
       (∀ q, captured s q = captured t q → findRecord t.records q = findRecord s.records q) ∧
       t.pbc = { s.pbc with demands := t.pbc.demands, pumps := t.pbc.pumps } ∧
       t.pbc.demands = s.pbc.demands.filter (fun x =>
         !(decide (x.amp < 2 * s.cfg.n) && released (source x.amp x.reason))) ∧
       t.pbc.pumps.map (fun x => (x.state, x.latch, x.preProbe)) =
         s.pbc.pumps.map (fun x => (x.state, x.latch, x.preProbe)) ∧
       (PumpsSound s → TargetsCurrent s → ∀ (j : Nat) (x : Pump), s.pbc.pumps[j]? = some x →
         ∃ y, t.pbc.pumps[j]? = some y ∧ Steered (s.cfg.pump j) t.now (targetSum s.cfg t.pbc j) x y)) ∧
      (∀ (i : Nat) (k : Tracker), (s.bank b).trackers[i]? = some k → k.kind = some .capture →
        ∃ k', (t.bank b).trackers[i]? = some k' ∧ (k'.pos = k.pos → k' = k) ∧
          (k'.pos ≠ k.pos →
            k' = { kind := k.kind, state := if k'.pos.isSome then .acquiring else .idle, pos := k'.pos, failed := 0,
                   sync := none, reception := .hunting, ahead := [] })) ∧
      (t.bank b).distinct s.cfg.position b ∧ (t.bank b).capturesEligible s.cfg ∧
      (t.bank b).trackers.map Tracker.kind = (s.bank b).trackers.map Tracker.kind ∧
      (∀ (i : Nat) (k : Tracker), (s.bank b).trackers[i]? = some k → k.kind = some .pinned → (t.bank b).trackers[i]? = some k) ∧
      ∀ q, (t.bank b).eligible s.cfg q = true → captured t q = false →
        ∀ k ∈ (t.bank b).trackers, k.kind = some .capture → ∃ q', k.pos = some q' ∧ farness q' < farness q

/-- SYNC_FOUND, SYNC_MISSING and SYNC_TIMER_EXPIRY on the stream of bits that the tracker has still to work on. R49: a
hunting tracker compares each run of 16 bits with the sync pattern, moving on by one bit, and begins to read after the first
that matches. R51: after an accepted frame the pattern is expected in the next 16 bits; a missing one is counted, the
tracker hunts on from the next bit, and at the third failure in a row it is ACQUIRING, as it is when its sync timer expires
(R52); a sync found while LOCKED restarts the timer from 8 s. Nothing else changes. The model's choices: a command that
names what the bits do not hold changes nothing, the next bit after a missing sync is the second of the 16, and after the
sync timer's expiry the hunt goes on in the bits at hand (log entry 13); how far the timebase moves (log entry 1). -/
def Obligations.TrackersFollowTheSync : Prop :=
  ∀ (b : Bank) (i : Nat) (k : Tracker) (bits : List Bool) (s : State), (s.bank b).trackers[i]? = some k →
    let pattern : List Bool :=
      [true, true, true, false, false, true, false, false, true, false, true, true, false, false, true, true]
    let stream := k.ahead ++ bits
    let syncAt (n : Nat) : Prop := (stream.drop n).take 16 = pattern
    let with_ (u : State) (k' : Tracker) : Host.Outcome State Fault Refusal :=
      .next (u.setBank b { s.bank b with trackers := (s.bank b).trackers.set i k' })
    let reads (n : Nat) : Tracker :=
      { k with reception := .reading, ahead := stream.drop (n + 16),
               sync := if k.state = .locked then some (s.now + 8000) else k.sync }
    (k.state ≠ .idle → (s.bank b).state ≠ .idle → k.reception = .hunting →
      (∀ n, syncAt n → (∀ m < n, ¬ syncAt m) → exec (.syncFound b ⟨i, bits⟩) s = with_ s (reads n)) ∧
      ((∀ n, ¬ syncAt n) → exec (.syncFound b ⟨i, bits⟩) s = .next s)) ∧
    (k.state ≠ .idle → (s.bank b).state ≠ .idle → k.reception = .expecting →
      (syncAt 0 → exec (.syncFound b ⟨i, bits⟩) s = with_ s (reads 0)) ∧
      (¬ syncAt 0 → exec (.syncFound b ⟨i, bits⟩) s = .next s)) ∧
    (k.state = .locked → k.reception = .expecting → 16 ≤ stream.length → ¬ syncAt 0 →
      (k.failed + 1 < 3 →
        exec (.syncMissing b ⟨i, bits⟩) s =
          with_ s { k with failed := k.failed + 1, reception := .hunting, ahead := stream.drop 1 }) ∧
      (3 ≤ k.failed + 1 →
        exec (.syncMissing b ⟨i, bits⟩) s =
          with_ s { k with state := .acquiring, failed := 0, sync := none, reception := .hunting,
                           ahead := stream.drop 1 })) ∧
    (stream.length < 16 ∨ syncAt 0 → exec (.syncMissing b ⟨i, bits⟩) s = .next s) ∧
    ∀ d, k.state = .locked → k.sync = some d →
      exec (.syncTimerExpiry b i) s =
        with_ { s with now := max s.now d }
          { k with state := .acquiring, failed := 0, sync := none, reception := .hunting }

/-- R50: a frame that fails a check is dropped whole, its only effect being on the tracker's own state: an ACQUIRING tracker
hunts on, and a LOCKED one counts the failure, giving up at the third in a row; the hunt resumes at the bit that follows the
first bit of that frame's sync (R49, R51). In DARK_WATCH and WAKE_PENDING every frame is discarded (R53); that the hunt then
resumes in the same place is the model's choice (log entry 13). -/
def Obligations.RefusedFramesOnlyMoveTheTracker : Prop :=
  ∀ (b : Bank) (i q : Nat) (k : Tracker) (bits : List Bool) (s : State), (s.bank b).trackers[i]? = some k →
    k.reception = .reading → k.pos = some q →
    let stream := k.ahead ++ bits
    let resumed : List Bool := (bitsOf 16 0xE4B3 ++ stream).drop 1
    let with_ (k' : Tracker) : Host.Outcome State Fault Refusal :=
      .next (s.setBank b { s.bank b with trackers := (s.bank b).trackers.set i k' })
    let refused : Prop :=
      crcPasses stream = false ∨ (readFrame stream).origin ≠ q ∨
        ∃ a ∈ (readFrame stream).amps, a.sIn < -6000 ∨ 3000 < a.sIn ∨ a.sOut < -6000 ∨ 3000 < a.sOut
    ((s.bank b).state = .running → refused → k.state ≠ .locked →
      exec (.frameChecked b i bits) s = with_ { k with reception := .hunting, ahead := resumed }) ∧
    ((s.bank b).state = .running → refused → k.state = .locked → k.failed + 1 < 3 →
      exec (.frameChecked b i bits) s =
        with_ { k with failed := k.failed + 1, reception := .hunting, ahead := resumed }) ∧
    ((s.bank b).state = .running → refused → k.state = .locked → 3 ≤ k.failed + 1 →
      exec (.frameChecked b i bits) s =
        with_ { k with state := .acquiring, failed := 0, sync := none, reception := .hunting, ahead := resumed }) ∧
    ((s.bank b).state ≠ .running →
      exec (.frameChecked b i bits) s = with_ { k with reception := .hunting, ahead := resumed })

/-! ## Frames received -/

/-- FRAME_CHECKED, an accepted frame, with a directive or without: in the state before the filter takes the directive
(`received`; O25 says what the filter adds, and without a directive it is the next state), the tracker is LOCKED with its
count at 0, its sync timer running from 8 s on entry (R49, R52), and the next sync is expected in the bits after the frame
(R51); the record of its origin is replaced whole and FRESH at age 0 (R73); the filter is as it was (R62); in the TERMINAL
role the changes of R74 are offered to the Record Queue in that rule's order (R181). -/
def Obligations.AcceptedFrameReplacesTheRecord : Prop :=
  ∀ (b : Bank) (i q : Nat) (k : Tracker) (bits : List Bool) (f : Frame) (r : Neighbour) (s : State),
    (s.bank b).trackers[i]? = some k → k.reception = .reading → k.pos = some q → (s.bank b).state = .running →
    acceptFrame q (k.ahead ++ bits) = some f → findRecord s.records q = some r →
    let changes (old : Frame) : List Change :=
      ((List.range (min old.amps.length f.amps.length)).flatMap fun a =>
        match old.amps[a]?, f.amps[a]? with
        | some x, some y =>
          (if x.state ≠ y.state then [Change.ampState a x.state y.state] else []) ++
          (if x.span ≠ y.span then [Change.spanVerdict a x.span y.span] else []) ++
          (if x.gain ≠ y.gain then [Change.gainVerdict a x.gain y.gain] else [])
        | _, _ => []) ++
      (List.range (min old.pumps.length f.pumps.length)).flatMap fun j =>
        match old.pumps[j]?, f.pumps[j]? with
        | some x, some y =>
          (if x.state ≠ y.state then [Change.pumpState j x.state y.state] else []) ++
          (if x.verdict ≠ y.verdict then [Change.pumpVerdict j x.verdict y.verdict] else [])
        | _, _ => []
    let t := s.received b i (k.ahead ++ bits) f
    (f.directive = none → exec (.frameChecked b i bits) s = .next t) ∧
      t = { s with rbe := t.rbe, rbw := t.rbw, records := t.records, flt := t.flt, pbc := t.pbc, pru := t.pru,
                   ttx := t.ttx, tpt := t.tpt } ∧
      t.bank b =
        { s.bank b with
          trackers := (s.bank b).trackers.set i
            { k with state := .locked, failed := 0, reception := .expecting,
                     ahead := (k.ahead ++ bits).drop (19 + 82 * f.pairs + 4 * f.pumpCount +
                       (if f.directive.isSome then 14 else 0) + 16),
                     sync := if k.state = .locked then k.sync else some (s.now + 8000) } } ∧
      (∀ b', b' ≠ b → t.bank b' = s.bank b') ∧
      t.records = s.records.map (fun x =>
        if x.origin = q then { x with freshness := .fresh, age := 0, since := s.now, contents := some f } else x) ∧
      t.tpt =
        if s.cfl.valid = true ∧ s.cfg.role = .terminal then
          ((r.contents.map changes).getD []).foldl (fun u ch => u.offer s.cfg s.now s.cfl.clock q ch) s.tpt
        else s.tpt

/-- What REPLACED does in its users, with a directive in the frame or without, before the filter takes it (`received`). The
FLT (R95): a flag newly set ends a quiet time, a flag newly clear starts one of the own probe window. The PBC (R143): an
entry drawn from the record stands afterwards exactly while the frame shows the amplifier BYPASSED, entries drawn from other
records stand as they did, and every pump takes the target of R132's sum, as R133 has it, in its state. The Suspect Table,
the references, the epoch timer, the latches, the switches and the other requests stand. The PRU (R157): in PROBING, a set
flag from a lower neighbour aborts the own probe, which ends as every probe does: IDLE, the settle times of its group (R99),
the gap timer and the round turn (R153), the rotation kept, and after a SCHEDULED probe no start pending; and a restore is
asked for, and the marker follows (R19); without a collision the tone stands. -/
def Obligations.AcceptedFrameReachesTheUsers : Prop :=
  ∀ (b : Bank) (i q : Nat) (k : Tracker) (bits : List Bool) (f : Frame) (r : Neighbour) (s : State),
    (s.bank b).trackers[i]? = some k → k.reception = .reading → k.pos = some q → (s.bank b).state = .running →
    acceptFrame q (k.ahead ++ bits) = some f → findRecord s.records q = some r →
    let c := s.cfg
    let neighbour : Prop := q = c.position - 1 ∨ q = c.position + 1
    let source (a : Nat) : DemandReason → Nat
      | .upstreamBypassed => if a % 2 = 0 then c.position - 1 else c.position + 1
      | .downstreamBypassed => if a % 2 = 0 then c.position + 1 else c.position - 1
    let collides : Prop := neighbour ∧ q < c.position ∧ f.probeActive = true
    let t := s.received b i (k.ahead ++ bits) f
    (f.directive = none → exec (.frameChecked b i bits) s = .next t) ∧
      t.flt = { s.flt with quiet := t.flt.quiet, settle := t.flt.settle } ∧
      t.pbc = { s.pbc with demands := t.pbc.demands, pumps := t.pbc.pumps, restores := t.pbc.restores } ∧
      t.pbc.pumps.length = s.pbc.pumps.length ∧
      t.flt.quiet = s.flt.quiet.map (fun x =>
        if x.pos = q ∧ x.flag = false ∧ f.probeActive = true then { x with flag := true, quietUntil := none }
        else if x.pos = q ∧ x.flag = true ∧ f.probeActive = false then
          { x with flag := false, quietUntil := some (s.now + 1000 * c.window) }
        else x) ∧
      (∀ d : Demand, d.amp < 2 * c.n → source d.amp d.reason = q →
        (d ∈ t.pbc.demands ↔
          d.amp / 2 + 1 ≤ f.pairs ∧ ∃ e, f.amps[d.amp]? = some e ∧ e.state = .bypassed)) ∧
      (∀ d : Demand, ¬ (d.amp < 2 * c.n ∧ source d.amp d.reason = q) →
        (d ∈ t.pbc.demands ↔ d ∈ s.pbc.demands)) ∧
      (∀ (j : Nat) (x : Pump), s.pbc.pumps[j]? = some x →
        ∃ y, t.pbc.pumps[j]? = some y ∧ Steered (c.pump j) s.now (targetSum c t.pbc j) x y) ∧
      (∀ pr w, s.pru.state = .probing pr w → collides →
        MarkerFollows s t ∧ ProbeAborted s t pr ∧ t.pbc.restores = s.pbc.restores ++ [⟨pr.pump, none⟩]) ∧
      (∀ pr w, s.pru.state = .probing pr w → ¬ collides →
        t.ttx = s.ttx ∧ t.pru = s.pru ∧ t.pbc.restores = s.pbc.restores ∧ t.flt.settle = s.flt.settle) ∧
      ((∀ pr w, s.pru.state ≠ .probing pr w) →
        t.ttx = s.ttx ∧ t.pru = s.pru ∧ t.pbc.restores = s.pbc.restores ∧ t.flt.settle = s.flt.settle)

/-- R62, the filter's table: a directive from an origin that is not authorised is ignored; one from an authorised origin is
recorded as the last id in mode SETTLED, whatever becomes of it, and is executed only when the entry was SETTLED with
another id, the kind is assigned and the target is the own position or 255.  `u` is the state in which the frame's contents
have replaced its record (R54), which O23 and O24 give field by field. -/
def Obligations.FilterDecidesByOriginModeAndId : Prop :=
  ∀ (b : Bank) (i q : Nat) (k : Tracker) (bits : List Bool) (f : Frame) (s : State),
    (s.bank b).trackers[i]? = some k → k.reception = .reading → k.pos = some q → (s.bank b).state = .running →
    acceptFrame q (k.ahead ++ bits) = some f → s.cfg.west ≠ s.cfg.east →
    let u := s.received b i (k.ahead ++ bits) f
    let executes (e : FilterEntry) (d : Directive) : Prop :=
      e.mode = .settled ∧ e.lastId ≠ some d.id ∧ d.kind ≠ .unassigned ∧ (d.target = s.cfg.position ∨ d.target = 255)
    u.filter = s.filter ∧
    (f.directive = none → exec (.frameChecked b i bits) s = .next u) ∧
    ∀ d, f.directive = some d →
      (q ≠ s.cfg.west → q ≠ s.cfg.east → exec (.frameChecked b i bits) s = .next u) ∧
      (q = s.cfg.west →
        let v := { u with filter := { s.filter with west := ⟨.settled, some d.id⟩ } }
        (executes s.filter.west d → exec (.frameChecked b i bits) s = .next (v.execute d.kind)) ∧
        (¬ executes s.filter.west d → exec (.frameChecked b i bits) s = .next v)) ∧
      (q = s.cfg.east →
        let v := { u with filter := { s.filter with east := ⟨.settled, some d.id⟩ } }
        (executes s.filter.east d → exec (.frameChecked b i bits) s = .next (v.execute d.kind)) ∧
        (¬ executes s.filter.east d → exec (.frameChecked b i bits) s = .next v))

/-- The filter's entries change only where an accepted frame brings a directive, and until the next COLD_START an entry that
is SETTLED stays SETTLED, so that no station executes the first directive it hears again (R61, R63). The frame is one being
read, or one that a warm restart of the same moment has cut (R64, log entry 28). -/
def Obligations.FilterEntriesStaySettled : Prop :=
  ∀ s t : State, step s = .next t → s.pending.head? ≠ some .coldStart →
    (s.filter.west.mode = .settled → t.filter.west.mode = .settled) ∧
    (s.filter.east.mode = .settled → t.filter.east.mode = .settled) ∧
    (t.filter ≠ s.filter → ∃ b i bits k q f d ahead, s.pending.head? = some (.frameChecked b i bits) ∧
      (s.bank b).state = .running ∧ (s.bank b).trackers[i]? = some k ∧ k.pos = some q ∧
      (k.reception = .reading ∧ ahead = k.ahead ∨
        k.reception ≠ .reading ∧ ∃ r, s.restarted = some r ∧ r.moment = s.now ∧ ⟨b, i, ahead⟩ ∈ r.cut) ∧
      acceptFrame q (ahead ++ bits) = some f ∧
      f.directive = some d ∧ (q = s.cfg.west ∨ q = s.cfg.east) ∧
      (t.filter = { s.filter with west := ⟨.settled, some d.id⟩ } ∨
        t.filter = { s.filter with east := ⟨.settled, some d.id⟩ }))

/-- Sender and receiver agree (R27 to R31, R49, R50, R189): a tracker on position `q` accepts the frame `f` from the bits
after a sync exactly when `f` is one that a station at `q` can send, and the bits begin with what its TTX sends after the
sync, CRC and all. And what the TTX sends is R189's layout, with R188's codes, most significant bit first: the sync pattern;
each field of the header (R27), of the amplifier and pump records (R28) and of the directive (R29) at its offset and in its
width; last the register of R30's CRC over all that follows the sync. -/
def Obligations.AcceptedBitsAreTheFrameSent : Prop :=
  (∀ (q : Nat) (bits : List Bool) (f : Frame),
    acceptFrame q bits = some f ↔
      (f.origin = q ∧ q < 256 ∧ 1 ≤ f.pairs ∧ f.pairs ≤ 4 ∧ 1 ≤ f.pumpCount ∧ f.pumpCount ≤ 4 ∧ f.probePump < 4 ∧
        f.amps.length = 2 * f.pairs ∧ f.pumps.length = f.pumpCount ∧
        (∀ a ∈ f.amps, -6000 ≤ a.sIn ∧ a.sIn ≤ 3000 ∧ -6000 ≤ a.sOut ∧ a.sOut ≤ 3000) ∧
        ∀ d, f.directive = some d → d.target < 256 ∧ d.id < 16) ∧
      ∃ rest, bits = afterSyncBits f ++ rest) ∧
  ∀ f : Frame, f.amps.length = 2 * f.pairs → f.pumps.length = f.pumpCount →
    let sent := frameBits f
    let msb (width value : Nat) : List Bool := (List.range width).map fun i => value.testBit (width - 1 - i)
    let field (offset width value : Nat) : Prop := (sent.drop offset).take width = msb width value
    let signed (x : Int) : Nat := (x % 2 ^ 16).toNat
    let bit (b : Bool) : Nat := if b then 1 else 0
    let role : Role → Nat
      | .repeater => 0 | .terminal => 1
    let marker : Marker → Nat
      | .nominal => 0 | .probing => 1 | .alarm => 2 | .isolated => 3
    let lightClass : LightClass → Nat
      | .dark => 0 | .faint => 1 | .low => 2 | .nominal => 3
    let ampState : AmpState → Nat
      | .normal => 0 | .compensating => 1 | .bypassed => 2 | .unpumped => 3
    let span : SpanVerdict → Nat
      | .clear => 0 | .suspect => 1 | .fibre => 2 | .cable => 3 | .unpaired => 4 | .lossOfLight => 5
      | .silentNeighbour => 6 | .unknown => 7
    let verdict : Verdict → Nat
      | .clear => 0 | .suspect => 1 | .faulty => 2 | .unknown => 3
    let pumpState : PumpState → Nat
      | .active => 0 | .probe => 1 | .floor => 2 | .off => 3
    let kind : DirectiveKind → Nat
      | .release => 0 | .rereference => 1 | .restart => 2 | .unassigned => 3
    let pumpsAt := 35 + 41 * (2 * f.pairs)
    let directiveAt := pumpsAt + 4 * f.pumpCount
    let crcAt := directiveAt + (if f.directive.isSome then 14 else 0)
    let register := ((sent.take crcAt).drop 16).foldl
      (fun (r : Nat) b => if xor (r.testBit 15) b then (2 * r % 2 ^ 16) ^^^ 0x1021 else 2 * r % 2 ^ 16) 0xFFFF
    sent = [true, true, true, false, false, true, false, false, true, false, true, true, false, false, true, true] ++
      afterSyncBits f ∧
    sent.length = crcAt + 16 ∧
    field 16 8 f.origin ∧ field 24 1 (role f.role) ∧ field 25 2 (f.pairs - 1) ∧ field 27 2 (marker f.marker) ∧
    field 29 1 (bit f.directive.isSome) ∧ field 30 1 (bit f.probeActive) ∧ field 31 2 f.probePump ∧
    field 33 2 (f.pumpCount - 1) ∧
    (∀ (i : Nat) (a : FrameAmp), f.amps[i]? = some a →
      let o := 35 + 41 * i
      field o 16 (signed a.sIn) ∧ field (o + 16) 16 (signed a.sOut) ∧ field (o + 32) 2 (lightClass a.cls) ∧
        field (o + 34) 2 (ampState a.state) ∧ field (o + 36) 3 (span a.span) ∧ field (o + 39) 2 (verdict a.gain)) ∧
    (∀ (j : Nat) (x : FramePump), f.pumps[j]? = some x →
      let o := pumpsAt + 4 * j
      field o 2 (pumpState x.state) ∧ field (o + 2) 2 (verdict x.verdict)) ∧
    (∀ d, f.directive = some d →
      field directiveAt 2 (kind d.kind) ∧ field (directiveAt + 2) 8 d.target ∧ field (directiveAt + 10) 4 d.id) ∧
    field crcAt 16 register

/-! ## Frames sent, and the amplifier state -/

/-- FRAME_SNAPSHOT: the frame carries each item as its owner holds it at its first bit (R25 to R29), lasts 8 ms for each of
its 35 + 41A + 4P + 16 bits, 14 more with a directive (R31), and follows what was sent before without a gap (R24); the probe
pump field is 0 while the flag is clear (R27, R189), and the verdicts are the published ones of R112 (whose table has no
line for a FAULTY entry without a kind, which no run holds), R113 and R118; the marker stays, and the tone's phase takes up
where the reversals of the frame before it left it (R23). How far the timebase has moved is the model's choice (log entry
1). -/
def Obligations.SnapshotCarriesTheOwnersValues : Prop :=
  ∀ (x : Sending) (s : State), s.ttx = .sending x → s.flt.spans.length = 2 * s.cfg.n → s.flt.amps.length = 2 * s.cfg.n →
    s.flt.pumps.length = s.cfg.m → s.pbc.pumps.length = s.cfg.m →
    let spanVerdict (e : SpanEntry) : Option SpanVerdict :=
      match e.state, e.kind with
      | .faulty, .fibre => some .fibre
      | .faulty, .cable => some .cable
      | .faulty, .unpaired => some .unpaired
      | .faulty, .lossOfLight => some .lossOfLight
      | .faulty, .silentNeighbour => some .silentNeighbour
      | .faulty, .none => none
      | .suspect, _ => some .suspect
      | .clear, _ => some (if e.basis = .none then .unknown else .clear)
    let gainVerdict (e : AmpEntry) : Verdict :=
      if e.latch then .faulty else if e.inputLow then .unknown
      else match e.state with | .clear => .clear | .suspect => .suspect | .faulty => .faulty
    let pumpVerdict (e : PumpEntry) : Verdict :=
      if e.latch then .faulty
      else match e.state with
        | .faulty => .faulty | .suspect => .suspect | .clear => if e.probed then .clear else .unknown
    ∃ f : Frame,
      exec .frameSnapshot s =
        .next { s with
                now := max s.now x.ends
                ttx := .sending
                  { marker := x.marker
                    frame := some f
                    ends := x.ends +
                      8 * (35 + 41 * (2 * s.cfg.n) + 4 * s.cfg.m + (if f.directive.isSome then 14 else 0) + 16)
                    reversed := xor x.reversed
                      (match x.frame with
                        | some old => decide ((frameBits old).countP (fun b => !b) % 2 = 1)
                        | none => false) } } ∧
      f.origin = s.cfg.position ∧ f.role = s.cfg.role ∧ f.pairs = s.cfg.n ∧ f.pumpCount = s.cfg.m ∧
      f.marker = x.marker ∧
      (∀ pr w, s.pru.state = .probing pr w → f.probeActive = true ∧ f.probePump = pr.pump) ∧
      ((∀ pr w, s.pru.state ≠ .probing pr w) → f.probeActive = false ∧ f.probePump = 0) ∧
      f.directive = (if s.cfg.role = .terminal then s.tpt.directive else none) ∧
      f.amps.length = 2 * s.cfg.n ∧ f.pumps.length = s.cfg.m ∧
      (∀ (a : Nat) sIn cls lastIn sOut lastOut eS eA, s.lmu.inputs[a]? = some (.tracking lastIn sIn cls) →
        s.lmu.outputs[a]? = some (.tracking lastOut sOut) → s.flt.spans[a]? = some eS → s.flt.amps[a]? = some eA →
        f.amps[a]? = some ⟨sIn, sOut, cls, s.pbc.ampState s.cfg a, eS.verdict, gainVerdict eA⟩ ∧
          ∀ v, spanVerdict eS = some v → eS.verdict = v) ∧
      ∀ (j : Nat) y e, s.pbc.pumps[j]? = some y → s.flt.pumps[j]? = some e →
        f.pumps[j]? = some ⟨y.state, pumpVerdict e⟩

/-- R26: the first line of the table that applies gives the amplifier state. The tone stands at the slot centre of R17 plus
the marker's offset of R18, and each 0 bit of the frame begun by now has reversed its phase (R23); while SILENT there is
none (R24). The same tone is on the dither output (R22) and on each carrying pump, which is not OFF and feeds a
supervisory-pair amplifier (R20), whose drive it swings by the dither depth about the applied drive (R21); the laser is
disabled when OFF (R131). While INVALID a bypass line stands at hand-off, as a pump line without a record does (R146), which
while VALID is the model's choice (log entry 27); otherwise a bypass line follows its latch. ATTN is driven while the port
is active and asserted while a cause is pending (R175, R185). That a swing is given in µA is the model's choice (log entry
21). -/
def Obligations.AmplifierStateFollowsThePumps : Prop :=
  (∀ (p : Pbc) (c : Commissioning) (a : Nat),
    let inState (j : Nat) (st : PumpState) : Prop := ∃ x, p.pumps[j]? = some x ∧ x.state = st
    let feeds (j : Nat) : Prop := j < p.pumps.length ∧ c.feeds j a = true
    let demanded (j : Nat) : Prop := ∃ d ∈ p.demands, c.feeds j d.amp = true
    let redundant (j : Nat) : Prop := ∃ i, i ≠ j ∧ inState i .off ∧ ∃ x, c.feeds i x = true ∧ c.feeds j x = true
    let unpumped : Prop := ∀ j, feeds j → inState j .off ∨ inState j .floor
    let compensating : Prop :=
      ∃ j, feeds j ∧ (inState j .active ∨ inState j .probe) ∧ (demanded j ∨ redundant j)
    (p.bypass[a]? = some true → p.ampState c a = .bypassed) ∧
    (p.bypass[a]? ≠ some true → unpumped → p.ampState c a = .unpumped) ∧
    (p.bypass[a]? ≠ some true → ¬ unpumped → compensating → p.ampState c a = .compensating) ∧
    (p.bypass[a]? ≠ some true → ¬ unpumped → ¬ compensating → p.ampState c a = .normal)) ∧
  ∀ s : State,
    let c := s.cfg
    let offset : Marker → Int
      | .isolated => -300 | .alarm => 300 | .probing => 150 | .nominal => 0
    let carries (j : Nat) (x : Pump) : Prop :=
      x.state ≠ .off ∧ (c.feeds j (c.supAmp .e) = true ∨ c.feeds j (c.supAmp .w) = true)
    s.ditherPin = s.tone ∧
    (s.ttx = .silent → s.tone = none) ∧
    (∀ x, s.ttx = .sending x →
      ∃ reversed, s.tone = some ⟨200000 + 1000 * c.position + offset x.marker, reversed⟩ ∧
        (x.frame = none → reversed = x.reversed) ∧
        ∀ (f : Frame) (i : Nat), x.frame = some f →
          let sent := frameBits f
          x.ends + 8 * i ≤ s.now + 8 * sent.length → s.now + 8 * sent.length < x.ends + 8 * (i + 1) →
          reversed = xor x.reversed (decide ((sent.take (i + 1)).countP (fun b => !b) % 2 = 1))) ∧
    (∀ (j : Nat) (x : Pump), s.pbc.pumps[j]? = some x →
      (s.ttx ≠ .silent → carries j x →
        s.driverPin j = .driven true x.applied (x.applied * c.dither)) ∧
      (s.ttx = .silent ∨ ¬ carries j x → s.driverPin j = .driven (decide (x.state ≠ .off)) x.applied 0)) ∧
    (∀ j, s.pbc.pumps[j]? = none → s.driverPin j = .handOff) ∧
    (∀ a, (s.cfl.valid = false → s.bypassPin a = .handOff) ∧
      (s.cfl.valid = true → s.pbc.bypass[a]? = some true → s.bypassPin a = .set) ∧
      (s.cfl.valid = true → s.pbc.bypass[a]? ≠ some true → s.bypassPin a = .inLine)) ∧
    (s.cfl.resetHeld = true ∨ s.cfl.strap ≠ .terminal → s.attention = none) ∧
    (s.cfl.resetHeld = false → s.cfl.strap = .terminal →
      s.attention = some (decide (s.tpt.causes ≠ ⟨false, false, false, false, false⟩)))

/-! ## The Observation Table in time -/

/-- RECORD_AGE_TICK: the age advances by one and saturates at 65535 (R75); a FRESH record whose age first exceeds 10 x L is
STALE, its contents kept (R76), and STALED clears the flag as last seen of its position with a quiet time (R95) and holds
the Demand List (R143), the pumps standing where their targets are current (R132). How far the timebase has moved is the
model's choice (log entry 1). -/
def Obligations.RecordsAgeAndGoStale : Prop :=
  ∀ (q : Byte) (r : Neighbour) (s : State), findRecord s.records q.toNat = some r → r.age < 65535 →
    let staled : Prop := r.freshness = .fresh ∧ 10 * s.cfg.stale < r.age + 1
    ∃ t, exec (.recordAgeTick q) s = .next t ∧
      t = { s with now := max s.now (r.since + 100 * (r.age + 1)), records := t.records,
                   flt := { s.flt with quiet := t.flt.quiet }, pbc := { s.pbc with pumps := t.pbc.pumps } } ∧
      findRecord t.records q.toNat =
        some { r with age := r.age + 1,
                      freshness := if r.freshness = .fresh ∧ 10 * s.cfg.stale < r.age + 1 then .stale
                                   else r.freshness } ∧
      (∀ q' : Nat, q' ≠ q.toNat → findRecord t.records q' = findRecord s.records q') ∧
      (staled → t.flt.quiet = s.flt.quiet.map (fun x =>
        if x.pos = q.toNat ∧ x.flag = true then
          { x with flag := false, quietUntil := some (t.now + 1000 * s.cfg.window) }
        else x)) ∧
      (staled → ∀ (j : Nat) (x : Pump), s.pbc.pumps[j]? = some x →
        ∃ y, t.pbc.pumps[j]? = some y ∧ Steered (s.cfg.pump j) t.now (targetSum s.cfg s.pbc j) x y) ∧
      (PumpsSound s → TargetsCurrent s → t.pbc = s.pbc) ∧
      (¬ staled → t.flt = s.flt ∧ t.pbc = s.pbc)

/-! ## The judgement epoch -/

/-- Chapter 6 at one moment. R80, R82: the entry and the probe flag of a position are those of its FRESH record, the entry
where its pair count reaches the pair. R90, R91: the basis of a span from the standings and entries of the two upstream
records, and the excess of the clamped loss over the reference of that basis; R94, R93: held when there is no basis, when
the input is DARK, or while the supplying neighbour probes or is quiet, and otherwise BAD, NEUTRAL or GOOD by the two
thresholds. R98, R97: amplifier evidence held for a low input, a bypass, an own probe or a settle time, and otherwise
RUNAWAY before DEFICIT, the runaway test being skipped while an increment applies to a pump that feeds the amplifier. -/
def Obligations.EvidenceFollowsBasisAndHolds : Prop :=
  ∀ (a : Nat) (s : State),
    let c := s.cfg
    let near := if a % 2 = 0 then c.position - 1 else c.position + 1
    let far := if a % 2 = 0 then c.position - 2 else c.position + 2
    let record (q : Nat) : Option Neighbour := s.records.find? fun r => r.origin == q
    let fresh (q : Nat) : Prop := ∃ r, record q = some r ∧ r.freshness = .fresh
    let contents (q : Nat) : Option Frame :=
      match record q with
      | some r => if r.freshness = .fresh then r.contents else none
      | none => none
    let entry (q : Nat) : Option FrameAmp :=
      match contents q with
      | some f => if a / 2 + 1 ≤ f.pairs then f.amps[a]? else none
      | none => none
    let flag (q : Nat) : Option Nat :=
      match contents q with
      | some f => if f.probeActive then some f.probePump else none
      | none => none
    let inLine (q : Nat) : Prop := ∃ e, entry q = some e ∧ e.state ≠ .bypassed
    let gain := s.lmu.sOut a - s.lmu.sIn a
    (∀ q, findRecord s.records q = record q ∧ probeFlag s.records q = flag q) ∧
    (inLine near → s.basisOf a = .direct) ∧
    ((∃ e, entry near = some e ∧ e.state = .bypassed) → inLine far → s.basisOf a = .bridged) ∧
    (¬ fresh near → inLine far → s.basisOf a = .skipped) ∧
    (¬ inLine near → ¬ inLine far → s.basisOf a = .none) ∧
    (fresh near → entry near = none → s.basisOf a = .none) ∧
    (s.basisOf a = .none → (s.spanResult a).evidence = .held) ∧
    (∀ q ref e r, s.flt.refs[a]? = some r → entry q = some e →
      (s.basisOf a = .direct ∧ q = near ∧ ref = r.lref ∨
        (s.basisOf a = .bridged ∨ s.basisOf a = .skipped) ∧ q = far ∧ ref = r.lskip) →
      let excess := max (-1000) (min 6000 (e.sOut - s.lmu.sIn a)) - ref
      let held : Prop := s.lmu.cls? a = some .dark ∨ flag q ≠ none ∨
        ∃ x, (s.flt.quiet.find? fun i => i.pos == q) = some x ∧ ∃ y, x.quietUntil = some y ∧ s.now < y
      (held → (s.spanResult a).evidence = .held) ∧
      (¬ held → c.tsHi ≤ excess → (s.spanResult a).evidence = .bad) ∧
      (¬ held → c.tsLo ≤ excess → excess < c.tsHi → (s.spanResult a).evidence = .neutral) ∧
      (¬ held → excess < c.tsLo → excess < c.tsHi → (s.spanResult a).evidence = .good)) ∧
    ∀ r, s.flt.refs[a]? = some r →
      let held : Prop := s.lmu.cls? a = some .dark ∨ s.lmu.cls? a = some .faint ∨ s.pbc.bypass[a]? = some true ∨
        (∃ pr w, s.pru.state = .probing pr w ∧ c.feeds pr.pump a = true) ∨ ∃ x, s.flt.settle[a]? = some (some x) ∧ s.now < x
      let incremented : Prop := ∃ j < s.pbc.pumps.length, c.feeds j a = true ∧
        ((∃ d ∈ s.pbc.demands, c.feeds j d.amp = true) ∨
          ∃ i x, i ≠ j ∧ s.pbc.pumps[i]? = some x ∧ x.state = .off ∧ c.intersects i j = true)
      let runaway : Prop := ¬ incremented ∧ (c.tr : Int) ≤ s.lmu.sOut a - r.oref
      let deficit := r.gref - gain
      s.deficit a = deficit ∧
      (held → (s.ampResult a).evidence = .held) ∧
      (¬ held → runaway → (s.ampResult a).evidence = .bad ∧ (s.ampResult a).kind = .runaway) ∧
      (¬ held → ¬ runaway → c.tgHi ≤ deficit → (s.ampResult a).evidence = .bad ∧ (s.ampResult a).kind = .deficit) ∧
      (¬ held → ¬ runaway → c.tgLo ≤ deficit → deficit < c.tgHi →
        (s.ampResult a).evidence = .neutral ∧ (s.ampResult a).kind = .none) ∧
      (¬ held → ¬ runaway → deficit < c.tgLo → deficit < c.tgHi →
        (s.ampResult a).evidence = .good ∧ (s.ampResult a).kind = .none)

/-- JUDGEMENT_EPOCH, stages 1, 3, 4 and 5. R106 and R107: each SPAN and AMP entry that is scored takes its score from the
evidence of this moment and its state by the level rule, since being set where the state changes, and an unchanged score
keeping the state also where R110 says that one BAD result declares (the model's choice, log entry 26); a latched AMP entry
and a SPAN entry of kind LOSS_OF_LIGHT are set aside, but for the basis. R108: BAD evidence gives an AMP entry its kind, and
one that becomes CLEAR has none. R114: a PUMP entry of a wholly deficient group gains 1 and its mark, its kind kept unless
it becomes CLEAR (R115); where a mark is newly set, one expedited round is asked for, as R153 takes it. R117: DEFICIT
becomes PUMP_ATTRIBUTED, or returns, by the pumps that feed the amplifier. R119, R120: the requests of the epoch, amplifiers
before pumps. The marker follows (R18). How far the timebase has moved is the model's choice (log entry 1). -/
def Obligations.EpochScoresAndRequests : Prop :=
  ∀ (d : Moment) (s : State), s.flt.epoch = some d →
    let c := s.cfg
    let v := { s with now := max s.now d }
    let level (before : Suspicion) (old new : Nat) : Suspicion :=
      if new = old then before
      else if before = .faulty ∧ c.lr < new then .faulty
      else if before ≠ .faulty ∧ c.ld ≤ new then .faulty
      else if c.ls ≤ new then .suspect else .clear
    let score (old weight : Nat) : Evidence → Nat
      | .bad => min 255 (old + weight) | .good => old - 1 | .neutral => old | .held => old
    let since (old : Nat) (before after : Suspicion) : Nat := if after = before then old else s.cfl.clock
    ∃ t, exec .judgementEpoch s = .next t ∧
      t = { s with now := max s.now d, flt := t.flt, pru := t.pru, ttx := t.ttx,
                   pbc := { s.pbc with isolations := t.pbc.isolations, driveRequests := t.pbc.driveRequests } } ∧
      MarkerFollows s t ∧ t.flt.epoch = some (d + 1000) ∧ t.flt.refs = s.flt.refs ∧ t.flt.quiet = s.flt.quiet ∧
      t.flt.settle = s.flt.settle ∧
      (let newly : Prop := ∃ (j : Nat) (e e' : PumpEntry), s.flt.pumps[j]? = some e ∧ t.flt.pumps[j]? = some e' ∧
          e.deficient = false ∧ e'.deficient = true
       (newly → t.pru = v.requestRound.pru ∧ t.pbc.driveRequests = v.requestRound.pbc.driveRequests) ∧
       (¬ newly → t.pru = s.pru ∧ t.pbc.driveRequests = s.pbc.driveRequests)) ∧
      (∀ (a : Nat) (e : SpanEntry), s.flt.spans[a]? = some e → e.kind = .lossOfLight →
        t.flt.spans[a]? = some { e with basis := v.basisOf a }) ∧
      (∀ (a : Nat) (e : SpanEntry), s.flt.spans[a]? = some e → e.kind ≠ .lossOfLight →
        ∃ e', t.flt.spans[a]? = some e' ∧ e'.score = score e.score c.ws (v.spanResult a).evidence ∧
          e'.state = level e.state e.score e'.score ∧ e'.since = since e.since e.state e'.state ∧
          e'.basis = v.basisOf a) ∧
      (∀ (a : Nat) (e : AmpEntry), s.flt.amps[a]? = some e → e.latch = true → t.flt.amps[a]? = some e) ∧
      (∀ (a : Nat) (e : AmpEntry), s.flt.amps[a]? = some e → e.latch = false →
        ∃ e', t.flt.amps[a]? = some e' ∧ e'.score = score e.score c.wg (v.ampResult a).evidence ∧
          e'.state = level e.state e.score e'.score ∧ e'.since = since e.since e.state e'.state ∧
          e'.latch = false ∧ e'.inputLow = e.inputLow ∧
          let kind : AmpKind :=
            if (v.ampResult a).evidence = .bad then (v.ampResult a).kind
            else if e'.state = .clear ∧ e.state ≠ .clear then .none else e.kind
          let attributed : Prop := ∃ j x, j < s.pbc.pumps.length ∧ c.feeds j a = true ∧ t.flt.pumps[j]? = some x ∧
            (x.state ≠ .clear ∨ x.deficient = true)
          (kind ≠ .deficit → kind ≠ .pumpAttributed → e'.kind = kind) ∧
          (kind = .deficit ∨ kind = .pumpAttributed → attributed → e'.kind = .pumpAttributed) ∧
          (kind = .deficit ∨ kind = .pumpAttributed → ¬ attributed → e'.kind = .deficit)) ∧
      (∀ (j : Nat) (e : PumpEntry), s.flt.pumps[j]? = some e →
        let members := (List.range (2 * c.n)).filter fun a => c.feeds j a && decide (s.pbc.bypass[a]? ≠ some true)
        let wholly : Prop := 2 ≤ members.length ∧ ∀ a ∈ members, ∃ x, t.flt.amps[a]? = some x ∧ x.state ≠ .clear ∧
          (x.kind = .deficit ∨ x.kind = .pumpAttributed)
        (e.latch = true ∨ ¬ wholly → t.flt.pumps[j]? = some { e with deficient := false }) ∧
        (e.latch = false → wholly →
          ∃ e', t.flt.pumps[j]? = some e' ∧ e'.score = min 255 (e.score + 1) ∧
            e'.state = level e.state e.score e'.score ∧ e'.since = since e.since e.state e'.state ∧
            e'.deficient = true ∧ e'.probed = e.probed ∧ e'.latch = false ∧
            e'.kind = (if e'.state = .clear ∧ e.state ≠ .clear then .none else e.kind))) ∧
      t.pbc.isolations =
        s.pbc.isolations ++
        ((List.range t.flt.amps.length).flatMap fun a =>
          match t.flt.amps[a]? with
          | some e =>
            if e.state = .faulty ∧ e.latch = false ∧ c.ampIsolation = true ∧
                (e.kind = .runaway ∨ e.kind = .deficit ∧ (c.ti : Int) ≤ v.deficit a)
            then [.amp a e.kind] else []
          | none => []) ++
        ((List.range t.flt.pumps.length).flatMap fun j =>
          match t.flt.pumps[j]? with
          | some e =>
            if e.state = .faulty ∧ e.latch = false ∧ e.kind = .noResponse ∧ c.pumpIsolation = true then [.pump j] else []
          | none => [])

/-- R81: the partner span of an E amplifier is that of the W amplifier of its pair in the record at p-1, of a W amplifier
that of the E amplifier at p+1; it is none unless the record is FRESH and its pair count reaches the pair. R111: stage 2
settles the kind of each FAULTY SPAN entry whose kind is not LOSS_OF_LIGHT, by the first row that holds, with the states and
bases that stage 1 of this epoch left. -/
def Obligations.SpanKindsAreSettledInOrder : Prop :=
  ∀ (d : Moment) (s : State), s.flt.epoch = some d →
    ∃ t, exec .judgementEpoch s = .next t ∧
      ∀ (a : Nat) (e e' : SpanEntry), s.flt.spans[a]? = some e → t.flt.spans[a]? = some e' → e.kind ≠ .lossOfLight → e'.state = .faulty →
        let direction : Prop := 2 ≤ s.cfg.n ∧ ∀ (i : Nat) (x : SpanEntry), t.flt.spans[i]? = some x → i % 2 = a % 2 → x.state = .faulty
        let partnerAt := if a % 2 = 0 then s.cfg.position - 1 else s.cfg.position + 1
        let partner : Option SpanVerdict :=
          match s.records.find? fun r => r.origin == partnerAt with
          | some r =>
            match r.contents with
            | some f =>
              if r.freshness = .fresh ∧ a / 2 + 1 ≤ f.pairs then
                f.amps[if a % 2 = 0 then a + 1 else a - 1]?.map FrameAmp.span
              else none
            | none => none
          | none => none
        let based : Prop := e'.basis = .direct ∨ e'.basis = .bridged
        (e'.basis = .none → e'.kind = e.kind) ∧
        (e'.basis = .skipped → e'.kind = .silentNeighbour) ∧
        (based → direction → e'.kind = .cable) ∧
        (based → ¬ direction →
          (partner = some .fibre ∨ partner = some .cable ∨ partner = some .unpaired ∨ partner = some .lossOfLight ∨
            partner = some .silentNeighbour → e'.kind = .cable) ∧
          (partner = some .clear ∨ partner = some .suspect → e'.kind = .fibre) ∧
          (partner = some .unknown ∨ partner = none → e'.kind = .unpaired))

/-! ## Pumps and bypasses -/

/-- AMP_ISOLATION_REQUEST. R135: refused for a supervisory-pair amplifier and without effect for a latched one; otherwise
the switch and the latch are set and the marker is ISOLATED. R121: the AMP entry is latched FAULTY at 255 with the request's
kind. R136: a pump, its isolation latch clear, whose group is now wholly bypassed goes to its remap state, one in FLOOR or
OFF that is not wholly bypassed comes back ACTIVE from its floor, and the others keep their states. R132, R133: every pump
takes the target of the sum, at once where its step interval is 0. R141, R156: a remapped probe ends without a result and
without a restore request, and the settle times of its group start, also when the PRU has ended it and the restore is still
on the way; whether a result that it gave at its window then stands is a free value (log entry 25). -/
def Obligations.AmpIsolationIsGrantedOrRefused : Prop :=
  ∀ (a : Nat) (kind : AmpKind) (rest : List IsolationRequest) (s : State), s.pbc.isolations = .amp a kind :: rest →
    let c := s.cfg
    let wholly (j : Nat) : Prop :=
      (∃ x, c.feeds j x = true) ∧ ∀ x, c.feeds j x = true → x = a ∨ s.pbc.bypass[x]? = some true
    (a = c.supAmp .e ∨ a = c.supAmp .w ∨ s.pbc.bypass[a]? = some true →
      exec .ampIsolationRequest s = .next { s with pbc := { s.pbc with isolations := rest } }) ∧
    (a ≠ c.supAmp .e → a ≠ c.supAmp .w → s.pbc.bypass[a]? = some false →
      ∃ t, exec .ampIsolationRequest s = .next t ∧
        t = { s with flt := { s.flt with amps := t.flt.amps, pumps := t.flt.pumps, settle := t.flt.settle }
                     pru := t.pru, ttx := t.ttx, spare := t.spare
                     pbc := { s.pbc with isolations := rest, bypass := s.pbc.bypass.set a true,
                                         switches := s.pbc.switches.set a true, pumps := t.pbc.pumps } } ∧
        MarkerFollows s t ∧ (∀ x, s.ttx = .sending x → t.ttx = .sending { x with marker := .isolated }) ∧
        (∀ (i : Nat) (e : AmpEntry), s.flt.amps[i]? = some e →
          t.flt.amps[i]? =
            some (if i = a ∧ e.latch = false then
                    { e with latch := true, score := 255, state := .faulty, kind := kind,
                             since := if e.state = .faulty then e.since else s.cfl.clock }
                  else e)) ∧
        (∀ (j : Nat) (x : Pump), s.pbc.pumps[j]? = some x →
          ∃ y, t.pbc.pumps[j]? = some y ∧ y.latch = x.latch ∧ y.target = targetSum c t.pbc j ∧
            (x.latch = false → wholly j → x.state = .active ∨ x.state = .probe →
              y.preProbe = none ∧ y.step = none ∧
              ((c.pump j).remapOff = true → y.state = .off ∧ y.applied = 0) ∧
              ((c.pump j).remapOff = false → y.state = .floor ∧ y.applied = (c.pump j).floor)) ∧
            (x.latch = false → ¬ wholly j → x.state = .floor ∨ x.state = .off →
              Steered (c.pump j) s.now (targetSum c t.pbc j)
                { x with state := .active, applied := (c.pump j).floor, preProbe := none } y) ∧
            (x.latch = true ∨ (wholly j ↔ x.state = .floor ∨ x.state = .off) →
              Steered (c.pump j) s.now (targetSum c t.pbc j) x y)) ∧
        (∀ (j : Nat) (x : Pump), s.pbc.pumps[j]? = some x → x.state = .probe → OneProbe s → wholly j →
          (∀ pr w, s.pru.state = .probing pr w → pr.pump = j → ProbeEnded s t pr) ∧
          ((∀ pr w, s.pru.state = .probing pr w → pr.pump ≠ j) →
            t.pru = s.pru ∧ SettleStarted s t j (s.now + 1000 * c.window)) ∧
          ((∀ g, ¬ Withdrawable s j g) → t.flt.pumps = s.flt.pumps ∧ t.spare = s.spare) ∧
          ∀ g, Withdrawable s j g →
            t.spare = s.spare + 1 ∧
            ∀ i, t.flt.pumps[i]? = s.flt.pumps[i]?.map fun e =>
              if i = j ∧ Config.resultWithdrawn s.spare = true then
                { e with score := g.before.score, state := g.before.state, kind := g.before.kind,
                         since := g.before.since, probed := g.before.probed }
              else e) ∧
        ((∀ (j : Nat) (x : Pump), s.pbc.pumps[j]? = some x → x.state = .probe → ¬ wholly j) →
          t.pru = s.pru ∧ t.flt.settle = s.flt.settle ∧ t.flt.pumps = s.flt.pumps ∧ t.spare = s.spare))

/-- PUMP_ISOLATION_REQUEST. R137: refused when pump `j` is the one pump feeding a supervisory-pair amplifier that is not
OFF, without effect when its latch is set; otherwise it goes OFF with its latch set, it carries no tone (R20), the other
pumps keep their states, every pump takes the target of R132's sum, at once where its step interval is 0 (R133), and the
marker is ISOLATED. R121: its PUMP entry is latched FAULTY at 255. R141, R156: a probe on it ends without a result and
without a restore request, and the settle times of its group start, also when the PRU has ended it and the restore is still
on the way; whether a result that it gave at its window is then taken back, before the entry is latched, is a free value
(log entry 25). -/
def Obligations.PumpIsolationIsGrantedOrRefused : Prop :=
  ∀ (j : Nat) (rest : List IsolationRequest) (x : Pump) (s : State), s.pbc.isolations = .pump j :: rest →
    s.pbc.pumps[j]? = some x →
    let c := s.cfg
    let lit (i : Nat) : Prop := ∃ y, s.pbc.pumps[i]? = some y ∧ y.state ≠ .off
    let latched (e : PumpEntry) : PumpEntry :=
      if e.latch then e
      else { e with latch := true, score := 255, state := .faulty, kind := .noResponse,
                    since := if e.state = .faulty then e.since else s.cfl.clock }
    let withdrawn (g : GivenResult) : Prop :=
      x.state = .probe ∧ Withdrawable s j g ∧ Config.resultWithdrawn s.spare = true
    let last : Prop := ∃ b, c.feeds j (c.supAmp b) = true ∧ lit j ∧ ∀ i, i ≠ j → c.feeds i (c.supAmp b) = true → ¬ lit i
    (last ∨ x.latch = true →
      exec .pumpIsolationRequest s = .next { s with pbc := { s.pbc with isolations := rest } }) ∧
    (¬ last → x.latch = false →
      ∃ t, exec .pumpIsolationRequest s = .next t ∧
        t = { s with flt := { s.flt with pumps := t.flt.pumps, settle := t.flt.settle }, pru := t.pru, ttx := t.ttx
                     spare := t.spare
                     pbc := { s.pbc with isolations := rest, pumps := t.pbc.pumps } } ∧
        MarkerFollows s t ∧ (∀ m, s.ttx = .sending m → t.ttx = .sending { m with marker := .isolated }) ∧
        (∀ (i : Nat) (e : PumpEntry), s.flt.pumps[i]? = some e →
          (i ≠ j → t.flt.pumps[i]? = some e) ∧
          (i = j → (∀ g, ¬ withdrawn g) → t.flt.pumps[i]? = some (latched e)) ∧
          ∀ g, i = j → withdrawn g →
            t.flt.pumps[i]? =
              some (latched { e with score := g.before.score, state := g.before.state, kind := g.before.kind,
                                     since := g.before.since, probed := g.before.probed })) ∧
        t.pbc.pumps[j]? = some { state := .off, target := targetSum c t.pbc j, applied := 0, latch := true,
                                 preProbe := none, step := none } ∧
        t.carrying j = false ∧
        (∀ (i : Nat) (y : Pump), i ≠ j → s.pbc.pumps[i]? = some y →
          ∃ z, t.pbc.pumps[i]? = some z ∧ Steered (c.pump i) s.now (targetSum c t.pbc i) y z) ∧
        (∀ pr w, s.pru.state = .probing pr w → pr.pump = j → x.state = .probe → ProbeEnded s t pr) ∧
        (x.state = .probe → (∀ pr w, s.pru.state = .probing pr w → pr.pump ≠ j) →
          t.pru = s.pru ∧ SettleStarted s t j (s.now + 1000 * c.window)) ∧
        (∀ g, x.state = .probe → Withdrawable s j g → t.spare = s.spare + 1) ∧
        ((∀ g, x.state = .probe → ¬ Withdrawable s j g) → t.spare = s.spare) ∧
        (x.state ≠ .probe → t.pru = s.pru ∧ t.flt.settle = s.flt.settle))

/-- STEP_TIMER_EXPIRY, R133: the applied drive moves toward the target by the step size, or by the distance that remains; at
the target the timer stops, and otherwise runs on by one step interval. How far the timebase has moved is the model's choice
(log entry 1). -/
def Obligations.StepMovesTowardTheTarget : Prop :=
  ∀ (j : Nat) (d : Moment) (x : Pump) (s : State), s.pbc.pumps[j]? = some x → x.step = some d →
    let k := s.cfg.pump j
    let moved := if x.applied ≤ x.target then min x.target (x.applied + k.stepSize) else max x.target (x.applied - k.stepSize)
    exec (.stepTimerExpiry j) s =
      .next { s with
              now := max s.now d
              pbc := { s.pbc with
                       pumps := s.pbc.pumps.set j
                         { x with applied := moved,
                                  step := if moved = x.target then none else some (d + 10 * k.interval) } } }

/-- PROBE_DRIVE_REQUEST. R139: granted to an ACTIVE pump that is not BUSY while no pump is in PROBE, whose applied drive is
lowered by its depth but not below its floor; refused otherwise, without effect on the pumps. R154: in STARTING a grant
enters PROBING with the window running, and moves the pointer of a SCHEDULED probe on, unless a lower neighbour's flag
aborts it at once (R157), the pointer moved on; a refusal ends the probe ABORTED; either end gives its group their settle
times (R99), starts the gap timer where R153 asks for it, and after a SCHEDULED probe leaves no start pending. A request
that a warm restart has overtaken (log entry 7) is answered as in IDLE, a grant by a restore request and the settle times.
The marker follows the flag (R18). -/
def Obligations.ProbeDriveIsAnswered : Prop :=
  ∀ (r : DriveRequest) (rest : List DriveRequest) (s : State), s.pbc.driveRequests = r :: rest →
    let c := s.cfg
    let grants : Prop :=
      (∃ x, s.pbc.pumps[r.pump]? = some x ∧ x.state = .active ∧ x.applied = x.target) ∧
        ∀ y ∈ s.pbc.pumps, y.state ≠ .probe
    let lowered (u : State) : Prop :=
      ∀ x, s.pbc.pumps[r.pump]? = some x →
        u.pbc.pumps = s.pbc.pumps.set r.pump
          { x with state := .probe, preProbe := some x.applied,
                   applied := max (c.pump r.pump).floor (x.applied - (c.pump r.pump).depth), step := none }
    let collides : Prop :=
      0 < c.position ∧ (probeFlag s.records (c.position - 1)).isSome = true
    let rotation (pr : Probe) : Nat :=
      if pr.source = ProbeSource.scheduled then (pr.pump + 1) % c.m else s.pru.rotation
    (∀ pr, s.pru.state = .starting pr → r.stale = false → grants → ¬ collides →
      ∃ t, exec .probeDriveRequest s = .next t ∧ lowered t ∧ MarkerFollows s t ∧
        t = { s with ttx := t.ttx
                     pru := { s.pru with
                              state := .probing pr (s.now + 1000 * c.window)
                              rotation := rotation pr }
                     pbc := { s.pbc with driveRequests := rest, pumps := t.pbc.pumps } }) ∧
    (∀ pr, s.pru.state = .starting pr → r.stale = false → grants → collides →
      ∃ t, exec .probeDriveRequest s = .next t ∧ lowered t ∧ MarkerFollows s t ∧
        ProbeAborted { s with pru := { s.pru with rotation := rotation pr } } t pr ∧
        t = { s with ttx := t.ttx, pru := t.pru, flt := { s.flt with settle := t.flt.settle }
                     pbc := { s.pbc with driveRequests := rest, pumps := t.pbc.pumps,
                                         restores := s.pbc.restores ++ [⟨pr.pump, none⟩] } }) ∧
    (∀ pr, s.pru.state = .starting pr → r.stale = false → ¬ grants →
      ∃ t, exec .probeDriveRequest s = .next t ∧ ProbeAborted s t pr ∧
        t = { s with pru := t.pru, flt := { s.flt with settle := t.flt.settle }
                     pbc := { s.pbc with driveRequests := rest } }) ∧
    (s.pru.state = .idle ∨ r.stale = true → grants →
      ∃ t, exec .probeDriveRequest s = .next t ∧ lowered t ∧ SettleStarted s t r.pump (s.now + 1000 * c.window) ∧
        t = { s with flt := { s.flt with settle := t.flt.settle }
                     pbc := { s.pbc with driveRequests := rest, pumps := t.pbc.pumps,
                                         restores := s.pbc.restores ++ [⟨r.pump, none⟩] } }) ∧
    (s.pru.state = .idle ∨ r.stale = true → ¬ grants →
      exec .probeDriveRequest s = .next { s with pbc := { s.pbc with driveRequests := rest } })

/-- PROBE_WINDOW_EXPIRY. R155: members whose bypass is now set are dropped, and the result is GOOD exactly when some
remaining member's output has fallen by Rmin or more; the PRU returns to IDLE and asks for the restore. R116: an unlatched
PUMP entry loses w_p on GOOD and gains it on NO_RESPONSE, with the probed mark, the level rule and the kind (R115), which is
NO_RESPONSE after a NO_RESPONSE also where the entry stays CLEAR; a latched one sets the result aside. The marker follows
(R19). The model notes in the request what the result made of the entry (log entry 25). That a probe with no member left is
a NO_RESPONSE is the model's choice (log entry 24), and so is how far the timebase has moved (log entry 1). -/
def Obligations.ProbeWindowGivesTheResult : Prop :=
  ∀ (pr : Probe) (d : Moment) (s : State), s.pru.state = .probing pr d →
    let c := s.cfg
    let good : Prop :=
      ∃ m ∈ pr.members, s.pbc.bypass[m.1]? ≠ some true ∧ (c.rmin : Int) ≤ m.2 - s.lmu.sOut m.1
    let level (before : Suspicion) (old new : Nat) : Suspicion :=
      if new = old then before
      else if before = .faulty ∧ c.lr < new then .faulty
      else if before ≠ .faulty ∧ c.ld ≤ new then .faulty
      else if c.ls ≤ new then .suspect else .clear
    ∃ t given, exec .probeWindowExpiry s = .next t ∧ ProbeEnded s t pr ∧ MarkerFollows s t ∧
      t = { s with now := max s.now d, pru := t.pru, ttx := t.ttx,
                   flt := { s.flt with pumps := t.flt.pumps, settle := t.flt.settle },
                   pbc := { s.pbc with restores := s.pbc.restores ++ [⟨pr.pump, given⟩] } } ∧
      (∀ e e', s.flt.pumps[pr.pump]? = some e → t.flt.pumps[pr.pump]? = some e' → given = some ⟨e, e'⟩) ∧
      ∀ (j : Nat) (e : PumpEntry), s.flt.pumps[j]? = some e →
        (j ≠ pr.pump ∨ e.latch = true → t.flt.pumps[j]? = some e) ∧
        (j = pr.pump → e.latch = false →
          ∃ e', t.flt.pumps[j]? = some e' ∧ e'.probed = true ∧ e'.latch = false ∧ e'.deficient = e.deficient ∧
            (good → e'.score = e.score - c.wp) ∧ (¬ good → e'.score = min 255 (e.score + c.wp)) ∧
            e'.state = level e.state e.score e'.score ∧
            e'.since = (if e'.state = e.state then e.since else s.cfl.clock) ∧
            (good → e'.kind = .none) ∧ (¬ good → e'.state ≠ .clear ∨ e.state = .clear → e'.kind = .noResponse))

/-- RESTORE_REQUEST, R140: the applied drive of a pump in PROBE returns to its pre-probe drive, the pre-probe drive becomes
none and the pump re-enters ACTIVE, ramping if the target has moved (R133); a pump no longer in PROBE has nothing to
restore, and the request is ignored.  That a request left over from an ended probe restores a pump that is in PROBE again is
the model's choice (log entry 23). -/
def Obligations.RestoreReturnsTheDrive : Prop :=
  ∀ (r : RestoreRequest) (rest : List RestoreRequest) (x : Pump) (s : State), s.pbc.restores = r :: rest →
    s.pbc.pumps[r.pump]? = some x →
    let j := r.pump
    let interval := (s.cfg.pump j).interval
    (∀ d, x.state = .probe → x.preProbe = some d → x.step = none →
      exec .restoreRequest s =
        .next { s with
                pbc := { s.pbc with
                         restores := rest
                         pumps := s.pbc.pumps.set j
                           { x with
                             state := .active
                             applied := if interval = 0 then x.target else d
                             preProbe := none
                             step := if interval = 0 ∨ d = x.target then none
                                     else some (s.now + 10 * interval) } } }) ∧
    (x.state ≠ .probe → exec .restoreRequest s = .next { s with pbc := { s.pbc with restores := rest } })

/-! ## The Probe Unit's schedule -/

/-- PROBE_INTERVAL_EXPIRY and PROBE_EPOCH_RETRY. R152: an expiry is absorbed while a round is in progress or a start is
pending; otherwise the start becomes pending and an attempt is made at once, as at each epoch while it is pending. The
attempt takes the first eligible pump from the rotation pointer on, in ascending index modulo m: with none the start is
dropped, with a start attempt that succeeds (R151) it is no longer pending, with one that fails it stays pending. How far
the timebase has moved is the model's choice (log entry 1). -/
def Obligations.ScheduledStartsAreMadeOrDeferred : Prop :=
  ∀ s : State,
    let m := s.cfg.m
    let inTurn (i : Nat) : Nat := (s.pru.rotation + i) % m
    let attempt (u t : State) : Prop :=
      ((∀ i < m, ¬ Eligible s (inTurn i)) → t = { u with pru := { u.pru with scheduled := false } }) ∧
      ∀ i < m, Eligible s (inTurn i) → (∀ l < i, ¬ Eligible s (inTurn l)) →
        (Startable s (inTurn i) →
          t = started { u with pru := { u.pru with scheduled := false } } (inTurn i) .scheduled) ∧
        (¬ Startable s (inTurn i) → t = { u with pru := { u.pru with scheduled := true } })
    (∀ d, s.pru.interval = some d →
      ∃ t, exec .probeIntervalExpiry s = .next t ∧
        let u := { s with now := max s.now d, pru := { s.pru with interval := some (d + 1000 * s.cfg.interval) } }
        (s.pru.round.isSome = true ∨ s.pru.scheduled = true → t = u) ∧
        (s.pru.round = none → s.pru.scheduled = false → attempt u t)) ∧
    (s.pru.scheduled = true → ∃ t, exec .probeEpochRetry s = .next t ∧ attempt s t)

/-- ROUND_EPOCH_RETRY, GAP_TIMER_EXPIRY and the FLT's request for a round. R153: a turn skips the pumps that are not
eligible; an empty list ends the round; the first eligible pump is probed with source ROUND, or, when the start attempt
fails, goes back to the head of the list in WAITING_EPOCH. A request made while no round is in progress takes every pump in
ascending index and cancels a pending start; while a probe is in progress the turn is WAITING_GAP; one made during a round
is absorbed. How far the timebase has moved is the model's choice (log entry 1). -/
def Obligations.RoundTakesItsTurns : Prop :=
  ∀ s : State,
    let turn (u : State) (left : List Nat) (t : State) : Prop :=
      ((∀ j ∈ left, ¬ Eligible u j) → t = { u with pru := { u.pru with round := none } }) ∧
      ∀ skipped j rest, left = skipped ++ j :: rest → (∀ i ∈ skipped, ¬ Eligible u i) → Eligible u j →
        (Startable u j → t = started { u with pru := { u.pru with round := some ⟨rest, .none⟩ } } j .round) ∧
        (¬ Startable u j → t = { u with pru := { u.pru with round := some ⟨j :: rest, .waitingEpoch⟩ } })
    (∀ r, s.pru.round = some r → r.turn = .waitingEpoch →
      ∃ t, exec .roundEpochRetry s = .next t ∧ turn s r.left t) ∧
    (∀ d r, s.pru.gap = some d → s.pru.round = some r →
      ∃ t, exec .gapTimerExpiry s = .next t ∧
        turn { s with now := max s.now d, pru := { s.pru with gap := none } } r.left t) ∧
    (s.pru.round = none → s.pru.state = .idle →
      turn { s with pru := { s.pru with scheduled := false } } (List.range s.cfg.m) s.requestRound) ∧
    (s.pru.round = none → s.pru.state ≠ .idle →
      s.requestRound =
        { s with pru := { s.pru with scheduled := false, round := some ⟨List.range s.cfg.m, .waitingGap⟩ } }) ∧
    (s.pru.round.isSome = true → s.requestRound = s)

/-! ## The Terminal Port -/

/-- READ_STATUS, with the port active: the response of R176 in the layout of R192, and in the same event every pending cause
cleared and the attention line released; nothing else changes, and no timer starts.  The bits of bytes 3 and 6 that R192
gives no field are free (log entry 4): the statement holds whatever they are. -/
def Obligations.ReadStatusReportsAndClears : Prop :=
  ∀ s : State, s.cfl.resetHeld = false → s.cfl.strap = .terminal →
    let result : Byte :=
      match s.cfl.result with
      | none => 0 | some .ok => 1 | some .absent => 2 | some .badMagic => 3 | some .badLength => 4
      | some .badChecksum => 5 | some (.badField _) => 6
    let check : Byte :=
      match s.cfl.result with
      | some (.badField k) => BitVec.ofNat 8 k
      | _ => 0
    let bankState : BankState → Byte
      | .idle => 0 | .running => 1 | .darkWatch => 2 | .wakePending => 3
    let bit (v : Byte) (b : Bool) : Byte := if b then v else 0
    let causes := s.tpt.causes
    ∃ t b3 b6, exec .readStatus s = .next t ∧
      t = { s with
            spare := s.spare + 1
            tpt := { s.tpt with
                     causes := ⟨false, false, false, false, false⟩
                     response := some ⟨.ok, [result, check, if s.cfl.valid then 1 else 0, b3,
                       BitVec.ofNat 8 s.tpt.queue.length, BitVec.ofNat 8 s.tpt.overrun, b6]⟩ } } ∧
      b3 &&& 0x0F = (bankState s.rbe.state <<< 2) ||| bankState s.rbw.state ∧
      b6 &&& 0x1F =
        (bit 1 causes.recordTimer ||| bit 2 causes.absoluteTimer ||| bit 4 causes.critical ||| bit 8 causes.lowSpace |||
          bit 16 causes.overrun) ∧
      t.attention = some false

/-- READ_PRESENCE, READ_OBSERVATION and READ_RECORD change no state but the response (R177, R184), which is OK and empty
where there is nothing to return. READ_PRESENCE returns the inbound bank's map entry (R46), READ_OBSERVATION the own record
or the neighbour record of the position with its head (R84), READ_RECORD the i-th oldest record, byte by byte in the layouts
of R192 with the codes of R188, which the fields of frames take too, quantities high byte first and in two's complement. The
bits to which R192 gives no field are free (log entry 4), and so is the pump field of an own record whose probe flag is
clear: the statement holds whatever they are. That the origin byte of an own record is the station's position is the model's
choice (log entry 32). -/
def Obligations.TableReadsOnlyRespond : Prop :=
  ∀ (q : Byte) (s : State), s.cfl.resetHeld = false → s.cfl.strap = .terminal →
    let answers (c : Instr) (payload : List Byte) : Prop :=
      ∃ k, exec c s = .next { s with spare := k, tpt := { s.tpt with response := some ⟨.ok, payload⟩ } }
    let byte (v : Nat) : Byte := BitVec.ofNat 8 v
    let word16 (v : Nat) : List Byte := [byte (v / 256), byte v]
    let word32 (v : Nat) : List Byte := [byte (v / 2 ^ 24), byte (v / 2 ^ 16), byte (v / 2 ^ 8), byte v]
    let signed (x : Int) : List Byte := word16 (x % 65536).toNat
    let presence : Presence → Nat
      | .silent => 0 | .nominal => 1 | .probing => 2 | .alarm => 3 | .isolated => 4
    let lightClass : LightClass → Nat
      | .dark => 0 | .faint => 1 | .low => 2 | .nominal => 3
    let ampState : AmpState → Nat
      | .normal => 0 | .compensating => 1 | .bypassed => 2 | .unpumped => 3
    let span : SpanVerdict → Nat
      | .clear => 0 | .suspect => 1 | .fibre => 2 | .cable => 3 | .unpaired => 4 | .lossOfLight => 5
      | .silentNeighbour => 6 | .unknown => 7
    let verdict : Verdict → Nat
      | .clear => 0 | .suspect => 1 | .faulty => 2 | .unknown => 3
    let pumpState : PumpState → Nat
      | .active => 0 | .probe => 1 | .floor => 2 | .off => 3
    let role : Role → Nat
      | .repeater => 0 | .terminal => 1
    let marker : Marker → Nat
      | .nominal => 0 | .probing => 1 | .alarm => 2 | .isolated => 3
    let severity : Severity → Nat
      | .info => 0 | .major => 1 | .critical => 2
    let kind : DirectiveKind → Nat
      | .release => 0 | .rereference => 1 | .restart => 2 | .unassigned => 3
    let directive (d : Option Directive) (hi lo : Byte) : Prop :=
      match d with
      | none => hi = 0 ∧ lo = 0
      | some d =>
        let v := 0x8000 + 0x1000 * kind d.kind + 16 * d.target + d.id
        hi &&& 0xBF = byte (v / 256) &&& 0xBF ∧ lo = byte v
    let ampBytes (sIn sOut : Int) (x : LightClass) (y : AmpState) (z : SpanVerdict) (w : Verdict) : List Byte :=
      signed sIn ++ signed sOut ++ [byte (lightClass x), byte (ampState y), byte (span z), byte (verdict w)]
    let pumpBytes (x : PumpState) (y : Verdict) : List Byte := [byte (pumpState x), byte (verdict y)]
    let map := if s.cfg.role = .terminal ∧ s.cfg.position = s.cfg.west then s.rbw.map else s.rbe.map
    ((∀ x, roleCode x = role x) ∧ (∀ x, Marker.code x = marker x) ∧ (∀ x, LightClass.code x = lightClass x) ∧
      (∀ x, AmpState.code x = ampState x) ∧ (∀ x, SpanVerdict.code x = span x) ∧ (∀ x, Verdict.code x = verdict x) ∧
      (∀ x, PumpState.code x = pumpState x) ∧ (∀ x, DirectiveKind.code x = kind x)) ∧
    (∀ e, s.cfl.valid = true → findEntry map q.toNat = some e →
      answers (.readPresence q)
        ([byte e.pos, byte (presence e.confirmed), match e.pending with | some x => byte (presence x) | none => 0xFF] ++
          word32 e.lastChange ++ [if e.held then 1 else 0])) ∧
    (s.cfl.valid = false ∨ findEntry map q.toNat = none → answers (.readPresence q) []) ∧
    (∀ r, s.tpt.queue[q.toNat]? = some r →
      let layout : Nat × Nat × Nat × Option (Nat × Nat) :=
        match r.change with
        | .presence o n => (0, 15, 0, some (presence o, presence n))
        | .ampState a o n => (2, a, 1, some (ampState o, ampState n))
        | .spanVerdict a o n => (1, a, 2, some (span o, span n))
        | .gainVerdict a o n => (1, a, 3, some (verdict o, verdict n))
        | .pumpState j o n => (2, 8 + j, 4, some (pumpState o, pumpState n))
        | .pumpVerdict j o n => (1, 8 + j, 5, some (verdict o, verdict n))
        | .directive _ _ => (3, 15, 6, none)
      ∃ o1 o2 n1 n2 : Byte,
        answers (.readRecord q)
          ([byte (64 * layout.1 + 16 * severity r.severity + layout.2.1), byte r.origin, byte layout.2.2.1,
            byte r.lostBefore, o1, o2, n1, n2] ++ word32 r.stamp) ∧
        (∀ o n, layout.2.2.2 = some (o, n) → o1 = 0 ∧ o2 = byte o ∧ n1 = 0 ∧ n2 = byte n) ∧
        ∀ o n, r.change = .directive o n → directive o o1 o2 ∧ directive (some n) n1 n2) ∧
    (s.tpt.queue.length ≤ q.toNat → answers (.readRecord q) []) ∧
    (∀ r, s.cfl.valid = true → q.toNat ≠ s.cfg.position → findRecord s.records q.toNat = some r →
      let head : List Byte :=
        [byte r.origin, 1, match r.bank with | .e => 0 | .w => 1,
          match r.freshness with | .vacant => 0 | .fresh => 1 | .stale => 2] ++ word16 r.age
      (r.contents = none → answers (.readObservation q) (head ++ [0, 0, 0])) ∧
      ∀ f, r.contents = some f →
        ∃ counts probe d1 d2 : Byte,
          answers (.readObservation q)
            (head ++ [counts, probe, 0] ++
              f.amps.flatMap (fun a => ampBytes a.sIn a.sOut a.cls a.state a.span a.gain) ++
              f.pumps.flatMap (fun p => pumpBytes p.state p.verdict) ++ [d1, d2]) ∧
          counts &&& 0xF7 = byte (128 * role f.role + 16 * f.pairs + f.pumpCount) &&& 0xF7 ∧
          probe &&& 0xB3 =
            byte (128 * (if f.probeActive then 1 else 0) + 16 * f.probePump + marker f.marker) &&& 0xB3 ∧
          directive f.directive d1 d2) ∧
    (∀ x, s.cfl.valid = true → q.toNat = s.cfg.position → s.ttx = .sending x →
      ∃ (counts probe : Byte) (amps pumps : List (List Byte)),
        answers (.readObservation q)
          ([byte s.cfg.position, 0, 0xFF, 0xFF, 0, 0, counts, probe, byte s.cfg.supPair] ++ amps.flatten ++ pumps.flatten) ∧
        counts &&& 0xF7 = byte (128 * role s.cfg.role + 16 * s.cfg.n + s.cfg.m) ∧
        (∀ pr w, s.pru.state = .probing pr w →
          probe &&& 0xB3 = byte (128 + 16 * pr.pump + marker x.marker) &&& 0xB3) ∧
        ((∀ pr w, s.pru.state ≠ .probing pr w) → probe &&& 0x83 = byte (marker x.marker)) ∧
        amps.length = min s.flt.spans.length s.flt.amps.length ∧
        pumps.length = min s.pbc.pumps.length s.flt.pumps.length ∧
        (∀ (a : Nat) lastIn sIn cls lastOut sOut eS eA, s.lmu.inputs[a]? = some (.tracking lastIn sIn cls) →
          s.lmu.outputs[a]? = some (.tracking lastOut sOut) → s.flt.spans[a]? = some eS → s.flt.amps[a]? = some eA →
          amps[a]? = some (ampBytes sIn sOut cls (s.pbc.ampState s.cfg a) eS.verdict eA.verdict ++ signed lastIn ++
            signed lastOut ++ word32 eS.since ++ word32 eA.since)) ∧
        ∀ (j : Nat) y e, s.pbc.pumps[j]? = some y → s.flt.pumps[j]? = some e →
          pumps[j]? = some (pumpBytes y.state e.verdict ++ word32 e.since)) ∧
    (s.cfl.valid = false ∨ q.toNat ≠ s.cfg.position ∧ findRecord s.records q.toNat = none →
      answers (.readObservation q) [])

/-- R178: WRITE_DIRECTIVE is NOT_VALID while the configuration is INVALID and BAD_TARGET with target 0, without effect;
otherwise the register takes kind, target and the id counter's id in place of what it held, the counter goes up modulo 16,
and a DIRECTIVE_SENT record, with the register's content before and after, is offered (R181). -/
def Obligations.WriteDirectiveTakesANewId : Prop :=
  ∀ (kind target : Byte) (s : State), Loaded s → s.cfl.resetHeld = false → s.cfl.strap = .terminal →
    (s.cfl.valid = false →
      exec (.writeDirective kind target) s = .next { s with tpt := { s.tpt with response := some ⟨.notValid, []⟩ } }) ∧
    (s.cfl.valid = true → target = 0 →
      exec (.writeDirective kind target) s = .next { s with tpt := { s.tpt with response := some ⟨.badTarget, []⟩ } }) ∧
    (s.cfl.valid = true → target ≠ 0 → ∀ d : Directive, d.target = target.toNat → d.id = s.tpt.idCounter →
      d.kind.code = kind.toNat % 4 →
      let loaded := { s.tpt with directive := some d, idCounter := (s.tpt.idCounter + 1) % 16 }
      exec (.writeDirective kind target) s =
        .next { s with
                tpt := { loaded.offer s.cfg s.now s.cfl.clock s.cfg.position (.directive s.tpt.directive d) with
                         response := some ⟨.ok, []⟩ } })

/-- R191: the bytes of an SPI transaction spell its command, each byte most significant bit first (R188), and none is taken
before its last operand byte; SDO gives 0xFF through the command and operand bytes, then status, length and payload, then
0xFF, and nothing while chip select is high or the port inactive (R175). R175 at the pins: the falling of chip select begins
a transaction, each rising edge of SCK while it is low samples SDI, its rise ends the transaction, and while the port is
inactive there is none; the levels that complete the last operand byte take the command, and no others take one. That a step
on an empty queue takes the levels that wait, at which edge SDO moves on, that SDO is high with chip select low and no
transaction in progress, and that a rising edge of SCK together with the fall of chip select is no clock, nor one together
with its rise, are the model's choices (log entry 30). R179, R184 and R185: what CLEAR_DIRECTIVE, ADVANCE, CLEAR_QUEUE and
BAD_COMMAND do with the port active, and the two attention timers at their expiry: their cause is raised and both timers
stop. How far the timebase has moved is the model's choice (log entry 1). -/
def Obligations.QueueCommandsAndTimersAct : Prop :=
  let operands (code : Byte) : Nat :=
    if code = 0x02 ∨ code = 0x03 ∨ code = 0x06 ∨ code = 0x07 then 1 else if code = 0x04 then 2 else 0
  let bits (b : Byte) : List Bool := (List.range 8).map fun i => b.toNat.testBit (7 - i)
  let clock (b : Bool) : List SpiPins :=
    let d : Level := if b then .high else .low
    [⟨.low, d, .low⟩, ⟨.high, d, .low⟩]
  (∀ (x : Spi) (p : SpiPins),
    (x.see true p).pins = p ∧ (x.see false p).bits = none ∧ (p.csn = .high → (x.see true p).bits = none) ∧
    (p.csn = .low → x.pins.csn = .high → (x.see true p).bits = some []) ∧
    (p.csn = .low → x.pins.csn = .low → x.bits = none → (x.see true p).bits = none) ∧
    ∀ sampled, p.csn = .low → x.pins.csn = .low → x.bits = some sampled →
      (x.see true p).bits =
        some (if x.pins.sck = .low ∧ p.sck = .high then sampled ++ [decide (p.sdi = .high)] else sampled)) ∧
  (∀ (x : Spi) (d : Level) (sent : List Bool), x.pins.csn = .high →
    ((⟨.low, d, .low⟩ :: sent.flatMap clock).foldl (fun y p => y.see true p) x).bits = some sent) ∧
  (∀ (s : State) (p : SpiPins) (rest : List SpiPins), s.pending = [] → s.spi.waiting = p :: rest →
    let active := decide (s.cfl.resetHeld = false ∧ s.cfl.strap = .terminal)
    let spi := { s.spi.see active p with waiting := rest }
    (∀ c, s.spi.bits.bind decodeBits = none → spi.bits.bind decodeBits = some c →
      step s = exec c { s with spi := spi }) ∧
    (s.spi.bits.bind decodeBits ≠ none ∨ spi.bits.bind decodeBits = none → step s = .next { s with spi := spi })) ∧
  (∀ s : State,
    (s.spi.pins.csn = .high ∨ s.cfl.resetHeld = true ∨ s.cfl.strap ≠ .terminal → s.sdo = none) ∧
    (s.spi.pins.csn = .low → s.cfl.resetHeld = false → s.cfl.strap = .terminal →
      (s.spi.bits.bind decodeBits = none → s.sdo = some .high) ∧
      ∀ sampled code, s.spi.bits = some sampled → decodeBits sampled ≠ none →
        (bytesClocked sampled).head? = some code →
        s.sdo = s.dataOut .low code (if s.spi.pins.sck = .low then sampled.length else sampled.length - 1))) ∧
  (∀ (a b : Byte) (rest : List Byte),
    decodeTransaction [] = none ∧
    decodeTransaction (0x01 :: rest) = some .readStatus ∧ decodeTransaction (0x02 :: a :: rest) = some (.readRecord a) ∧
    decodeTransaction (0x03 :: a :: rest) = some (.advance a) ∧
    decodeTransaction (0x04 :: a :: b :: rest) = some (.writeDirective a b) ∧
    decodeTransaction (0x05 :: rest) = some .clearDirective ∧
    decodeTransaction (0x06 :: a :: rest) = some (.readPresence a) ∧
    decodeTransaction (0x07 :: a :: rest) = some (.readObservation a) ∧
    decodeTransaction (0x08 :: rest) = some .clearQueue ∧
    (a = 0 ∨ 8 < a.toNat → decodeTransaction (a :: rest) = some (.badCommand a)) ∧
    (decodeTransaction (a :: rest) = none ↔ rest.length < operands a)) ∧
  (∀ (sent : List Byte) (cut : List Bool), cut.length < 8 →
    decodeBits (sent.flatMap bits ++ cut) = decodeTransaction sent) ∧
  (∀ (r : Response) (code : Byte) (k : Nat),
    let status : Byte := match r.status with | .ok => 0 | .badTarget => 1 | .notValid => 2 | .badCommand => 3
    (k ≤ operands code → r.outByte code k = 0xFF) ∧
    r.outByte code (operands code + 1) = status ∧
    r.outByte code (operands code + 2) = BitVec.ofNat 8 r.payload.length ∧
    r.outByte code (operands code + 3 + k) = r.payload.getD k 0xFF) ∧
  (∀ (s : State) (code : Byte) (i : Nat),
    s.dataOut .high code i = none ∧
    (s.cfl.resetHeld = true ∨ s.cfl.strap ≠ .terminal → s.dataOut .low code i = none) ∧
    ∀ r, s.cfl.resetHeld = false → s.cfl.strap = .terminal → s.tpt.response = some r →
      s.dataOut .low code i = some (if (r.outByte code (i / 8)).toNat.testBit (7 - i % 8) then .high else .low)) ∧
  (∀ s : State, s.cfl.resetHeld = false → s.cfl.strap = .terminal →
    exec .clearDirective s =
      .next { s with tpt := { s.tpt with directive := none, response := some ⟨.ok, []⟩ } } ∧
    (∀ n : Byte, exec (.advance n) s =
      .next { s with
              tpt := { s.tpt with
                       queue := s.tpt.queue.drop n.toNat
                       response := some ⟨.ok, [BitVec.ofNat 8 (s.tpt.queue.length - n.toNat)]⟩ } }) ∧
    exec .clearQueue s =
      .next { s with
              tpt := { s.tpt with queue := [], overrun := 0, gap := 0, recordTimer := none, absoluteTimer := none,
                                  response := some ⟨.ok, []⟩ } } ∧
    ∀ code : Byte, exec (.badCommand code) s =
      .next { s with tpt := { s.tpt with response := some ⟨.badCommand, []⟩ } }) ∧
  (∀ (d : Moment) (s : State), s.tpt.recordTimer = some d →
    exec .recordTimerExpiry s =
      .next { s with
              now := max s.now d
              tpt := { s.tpt with causes := { s.tpt.causes with recordTimer := true }, recordTimer := none,
                                  absoluteTimer := none } }) ∧
  ∀ (d : Moment) (s : State), s.tpt.absoluteTimer = some d →
    exec .absoluteTimerExpiry s =
      .next { s with
              now := max s.now d
              tpt := { s.tpt with causes := { s.tpt.causes with absoluteTimer := true }, recordTimer := none,
                                  absoluteTimer := none } }

/-- R182's table of severities, by the new value. R183 and R185: an offered record is stored at the newest end with the gap
count as its lost-before, or dropped when 128 are held, both loss counts going up as far as 255 and OVERRUN raised. A store
raises RECORD_TIMER when Tq is 0, CRITICAL for a CRITICAL record, LOW_SPACE when it leaves the free entries at or below a
threshold that is not 0; when a cause is raised both timers stop; when none is raised and none is pending the record timer
starts afresh and the absolute timer runs on or starts. That a store which raises a cause at the very moment of the absolute
timer's expiry stops that timer is the model's choice (log entry 29). -/
def Obligations.OffersAreStoredOrDropped : Prop :=
  (∀ old new, (Change.presence old new).severity =
    match new with | .silent | .isolated => .critical | .alarm => .major | .nominal | .probing => .info) ∧
  (∀ a old new, (Change.ampState a old new).severity =
    match new with | .bypassed => .critical | .unpumped => .major | .normal | .compensating => .info) ∧
  (∀ a old new, (Change.spanVerdict a old new).severity =
    match new with
    | .lossOfLight | .cable => .critical
    | .fibre | .unpaired | .silentNeighbour => .major
    | .clear | .suspect | .unknown => .info) ∧
  (∀ a old new, (Change.gainVerdict a old new).severity =
    match new with | .faulty => .major | .clear | .suspect | .unknown => .info) ∧
  (∀ j old new, (Change.pumpState j old new).severity =
    match new with | .off => .critical | .active | .probe | .floor => .info) ∧
  (∀ j old new, (Change.pumpVerdict j old new).severity =
    match new with | .faulty => .major | .clear | .suspect | .unknown => .info) ∧
  (∀ old new, (Change.directive old new).severity = .info) ∧
  ∀ (c : Commissioning) (now clock origin : Nat) (change : Change) (t : Tpt),
    let causes := t.causes
    let critical := decide (change.severity = .critical)
    let low := decide (c.lowSpace ≠ 0 ∧ 128 - (t.queue.length + 1) ≤ c.lowSpace)
    let immediate := decide (c.tq = 0)
    let pending := causes.recordTimer || causes.absoluteTimer || causes.critical || causes.lowSpace || causes.overrun
    (t.queue.length < 128 →
      t.offer c now clock origin change =
        { t with
          queue := t.queue ++ [⟨origin, change, change.severity, clock, t.gap⟩]
          gap := 0
          causes :=
            { causes with
              recordTimer := causes.recordTimer || immediate
              critical := causes.critical || critical
              lowSpace := causes.lowSpace || low }
          recordTimer :=
            if critical || low || immediate then none
            else if pending then t.recordTimer else some (now + 100 * c.tq)
          absoluteTimer :=
            if critical || low || immediate then none
            else if pending then t.absoluteTimer else some (t.absoluteTimer.getD (now + 400 * c.tq)) }) ∧
    (128 ≤ t.queue.length →
      t.offer c now clock origin change =
        { t with
          overrun := min 255 (t.overrun + 1)
          gap := min 255 (t.gap + 1)
          causes := { causes with overrun := true }
          recordTimer := none
          absoluteTimer := none })

/-! ## Commands that are not due -/

/-- A command whose event cannot come in the present state, because its timer is stopped, its request is not at the front,
its tracker is not at that work, or the port is inactive (R175), changes nothing; and on an empty queue, with no levels
waiting for the SPI pins, one millisecond passes, since the scope's section on time in the part gives the blocks no common
step. These are the model's choices (log entries 1, 2 and 30). -/
def Obligations.CommandsNotDueChangeNothing : Prop :=
  ∀ s : State,
    let idle (c : Instr) : Prop := exec c s = .next s
    (s.pending = [] → s.spi.waiting = [] → step s = .next { s with now := s.now + 1 }) ∧
    (s.cfl.resetHeld = false → ∀ x, idle (.loadBegin x)) ∧
    (s.cfl.resetHeld = true ∨ s.cfl.phase ≠ .readingHeader → ∀ r, idle (.readingHeader r)) ∧
    (s.cfl.resetHeld = true ∨ s.cfl.phase ≠ .readingBody → ∀ r, idle (.readingBody r)) ∧
    (s.cfl.resetHeld = true ∨ s.cfl.phase ≠ .readingHeader ∧ s.cfl.phase ≠ .readingBody →
      idle .wordTransferTimeout) ∧
    (s.cfl.resetHeld = true ∨ s.cfl.phase ≠ .sampling → ∀ r, idle (.declareValid r)) ∧
    (s.lmu.epoch = none → ∀ r, idle (.sampleSet r)) ∧
    (∀ b, (s.bank b).state ≠ .wakePending → idle (.confirmationTimerExpiry b)) ∧
    (∀ b d, (s.bank b).state ≠ .running ∨ (s.bank b).dwell = none → idle (.dwellComplete b d)) ∧
    (∀ b i, (s.bank b).trackers[i]? = none →
      (∀ bits, idle (.syncFound b ⟨i, bits⟩) ∧ idle (.frameChecked b i bits) ∧ idle (.syncMissing b ⟨i, bits⟩)) ∧
        idle (.syncTimerExpiry b i)) ∧
    (∀ b i k, (s.bank b).trackers[i]? = some k →
      (k.state = .idle ∨ k.reception = .reading → ∀ bits, idle (.syncFound b ⟨i, bits⟩)) ∧
      (k.pos = none → ∀ bits, idle (.frameChecked b i bits)) ∧
      (k.reception ≠ .reading → (∀ r ahead, s.restarted = some r → r.moment = s.now → ⟨b, i, ahead⟩ ∉ r.cut) →
        ∀ bits, idle (.frameChecked b i bits)) ∧
      (k.reception ≠ .reading → (s.bank b).state ≠ .running → ∀ bits, idle (.frameChecked b i bits)) ∧
      (k.state ≠ .locked ∨ k.reception ≠ .expecting → ∀ bits, idle (.syncMissing b ⟨i, bits⟩)) ∧
      (k.state ≠ .locked ∨ k.sync = none → idle (.syncTimerExpiry b i))) ∧
    (∀ q : Byte, (∀ r, findRecord s.records q.toNat = some r → r.age = 65535) → idle (.recordAgeTick q)) ∧
    (s.ttx = .silent → idle .frameSnapshot) ∧
    (s.flt.epoch = none → idle .judgementEpoch) ∧
    (s.pru.scheduled = false → idle .probeEpochRetry) ∧
    ((∀ r, s.pru.round = some r → r.turn ≠ .waitingEpoch) → idle .roundEpochRetry) ∧
    ((∀ a kind rest, s.pbc.isolations ≠ .amp a kind :: rest) → idle .ampIsolationRequest) ∧
    ((∀ j rest, s.pbc.isolations ≠ .pump j :: rest) → idle .pumpIsolationRequest) ∧
    (∀ j, s.pbc.pumps[j]?.bind Pump.step = none → idle (.stepTimerExpiry j)) ∧
    (s.pru.interval = none → idle .probeIntervalExpiry) ∧
    (s.pbc.driveRequests = [] → idle .probeDriveRequest) ∧
    ((∀ pr d, s.pru.state ≠ .probing pr d) → idle .probeWindowExpiry) ∧
    (s.pbc.restores = [] → idle .restoreRequest) ∧
    (s.pru.gap = none ∨ s.pru.round = none → idle .gapTimerExpiry) ∧
    (s.cfl.resetHeld = true ∨ s.cfl.strap ≠ .terminal →
      idle .readStatus ∧ (∀ q, idle (.readPresence q)) ∧ (∀ q, idle (.readObservation q)) ∧
        (∀ x y, idle (.writeDirective x y)) ∧ idle .clearDirective ∧ (∀ i, idle (.readRecord i)) ∧
        (∀ n, idle (.advance n)) ∧ idle .clearQueue ∧ ∀ x, idle (.badCommand x)) ∧
    (s.tpt.recordTimer = none → idle .recordTimerExpiry) ∧ (s.tpt.absoluteTimer = none → idle .absoluteTimerExpiry)

/-! ## Directives executed -/

/-- RELEASE. R145: every latched bypass returned in-line, every latched pump out of OFF, every pump in FLOOR or OFF ACTIVE
from its floor, every target recomputed and taken at once where the step interval is 0 (R133), a probe left running, the
Demand List untouched; R124: the entries of what was released cleared at 0 and the others untouched; the marker no longer
ISOLATED. -/
def Obligations.ReleaseUndoesEveryIsolation : Prop :=
  ∀ s : State, LatchesAgree s →
    let c := s.cfg
    let t := s.execute .release
    t = { s with ttx := t.ttx, flt := { s.flt with amps := t.flt.amps, pumps := t.flt.pumps }
                 pbc := { s.pbc with bypass := t.pbc.bypass, switches := t.pbc.switches, pumps := t.pbc.pumps } } ∧
    MarkerFollows s t ∧ (∀ x, t.ttx = .sending x → x.marker ≠ .isolated) ∧
    t.pbc.bypass = List.replicate s.pbc.bypass.length false ∧
    (∀ (a : Nat) (x : Bool), s.pbc.switches[a]? = some x →
      t.pbc.switches[a]? = some (if s.pbc.bypass[a]? = some true then false else x)) ∧
    (∀ (a : Nat) (e : AmpEntry), s.flt.amps[a]? = some e →
      t.flt.amps[a]? =
        some (if e.latch then { e with latch := false, score := 0, state := .clear, kind := .none, since := s.cfl.clock }
              else e)) ∧
    (∀ (j : Nat) (e : PumpEntry), s.flt.pumps[j]? = some e →
      t.flt.pumps[j]? =
        some (if e.latch then { e with latch := false, score := 0, state := .clear, kind := .none, since := s.cfl.clock }
              else e)) ∧
    ∀ (j : Nat) (x : Pump), s.pbc.pumps[j]? = some x →
      ∃ y, t.pbc.pumps[j]? = some y ∧
        (x.state = .floor ∨ x.state = .off →
          Steered (c.pump j) s.now (targetSum c t.pbc j)
            { x with state := .active, applied := (c.pump j).floor, preProbe := none, latch := false } y) ∧
        (x.state = .active ∨ x.state = .probe →
          Steered (c.pump j) s.now (targetSum c t.pbc j) { x with latch := false } y)

/-- REREFERENCE.  R171: every amplifier's gain and output references take the present values, and the span reference of the
present basis takes the clamped loss from its supplying neighbour; R125: the Suspect Table cleared, but for latched entries
and for a LOSS_OF_LIGHT whose input is still DARK, and every deficient mark with it.  The marker follows
(R19). -/
def Obligations.RereferenceRenewsTheReferences : Prop :=
  ∀ s : State,
    let t := s.execute .rereference
    let entry (q a : Nat) : Option FrameAmp :=
      match s.records.find? fun r => r.origin == q with
      | some r =>
        match r.contents with
        | some f => if r.freshness = .fresh ∧ a / 2 + 1 ≤ f.pairs then f.amps[a]? else none
        | none => none
      | none => none
    let loss (e : FrameAmp) (a : Nat) : Int := max (-1000) (min 6000 (e.sOut - s.lmu.sIn a))
    let since (old : Nat) (before : Suspicion) : Nat := if before = .clear then old else s.cfl.clock
    t = { s with ttx := t.ttx, flt := { s.flt with refs := t.flt.refs, spans := t.flt.spans, amps := t.flt.amps,
                                                   pumps := t.flt.pumps } } ∧
    MarkerFollows s t ∧
    (∀ (a : Nat) (r : References), s.flt.refs[a]? = some r →
      ∃ r', t.flt.refs[a]? = some r' ∧ r'.gref = s.lmu.sOut a - s.lmu.sIn a ∧ r'.oref = s.lmu.sOut a ∧
        (∀ e, s.basisOf a = .direct →
          entry (if a % 2 = 0 then s.cfg.position - 1 else s.cfg.position + 1) a = some e → r'.lref = loss e a ∧ r'.lskip = r.lskip) ∧
        (∀ e, s.basisOf a = .bridged →
          entry (if a % 2 = 0 then s.cfg.position - 2 else s.cfg.position + 2) a = some e → r'.lref = r.lref ∧ r'.lskip = loss e a) ∧
        (s.basisOf a = .skipped ∨ s.basisOf a = .none → r'.lref = r.lref ∧ r'.lskip = r.lskip)) ∧
    (∀ (a : Nat) (e : SpanEntry), s.flt.spans[a]? = some e →
      t.flt.spans[a]? =
        some (if e.kind = .lossOfLight ∧ s.lmu.cls? a = some .dark then e
              else { e with score := 0, state := .clear, kind := .none, since := since e.since e.state })) ∧
    (∀ (a : Nat) (e : AmpEntry), s.flt.amps[a]? = some e →
      t.flt.amps[a]? =
        some (if e.latch then e
              else { e with score := 0, state := .clear, kind := .none, since := since e.since e.state })) ∧
    ∀ (j : Nat) (e : PumpEntry), s.flt.pumps[j]? = some e →
      t.flt.pumps[j]? =
        some (if e.latch then { e with deficient := false }
              else { e with score := 0, state := .clear, kind := .none, since := since e.since e.state,
                            deficient := false })

/-- RESTART, the warm restart of R173. Kept: the configuration, the image, the clock, the meters, the filter, the queue and
the register (R9, R61, R187), the frame in progress (R33), the sweep numbers (R47), the references, quiet-until times and
latched entries (R96, R127), the latched isolations (R148), the rotation pointer (R160); the settle times, but for those
that the end of a probe sets (R99). Reset: the maps and the trackers (R47, R66), a sweep begun, every record, a VACANT one
created again for each pinned position (R83), the unlatched entries (R127), the Demand List and the drives by the warm
policy, the step timers afresh (R148), the probe, the round and the schedule (R160), the epoch timer (R85). The model reads
from the rules that requests of the FLT and the PRU still waiting are kept (log entry 6) and that the PRU adds no restore
request to them, since the PBC's own restart restores the drive (log entry 18); a request for PROBE drive still waiting is
answered as in IDLE, which its stale mark says (log entry 7). That a pinned tracker hunts on in the bits still to come is
the model's choice (log entry 8). R64: a frame that another tracker was reading in a RUNNING bank and that completes at the
same moment, taken after the restart, is abandoned, as it is where its bank is now dark (R34); but a RESTART that the filter
passes, for which R64 has both outcomes, is by a free value either abandoned with its id unrecorded or taken with the first,
and the station restarts again at once, its id recorded. For this the model notes the frames cut (log entry 28). -/
def Obligations.RestartKeepsAndResets : Prop :=
  ∀ s : State,
    let c := s.cfg
    let t := s.execute .restart
    let clearedSince (old : Nat) (before : Suspicion) : Nat := if before = .clear then old else s.cfl.clock
    let side : Bank → List Nat
      | .e => List.range' 1 (c.position - 1)
      | .w => (List.range' (c.position + 1) (254 - c.position)).reverse
    let vacants (b : Bank) : List Neighbour :=
      (s.bank b).trackers.filterMap fun k =>
        if k.kind = some .pinned then k.pos.map (fun q => ⟨q, b, .vacant, 0, s.now, none⟩) else none
    t = { s with ttx := t.ttx, rbe := t.rbe, rbw := t.rbw, records := t.records, flt := t.flt, pbc := t.pbc
                 pru := ⟨.idle, s.pru.rotation, if c.interval = 0 then none else some (s.now + 1000 * c.interval), false,
                   none, none⟩
                 restarted := t.restarted } ∧
    MarkerFollows s t ∧
    t.pbc.demands = [] ∧ t.pbc.bypass = s.pbc.bypass ∧ t.pbc.switches = s.pbc.switches ∧
    t.pbc.isolations = s.pbc.isolations ∧ t.pbc.restores = s.pbc.restores ∧
    t.pbc.driveRequests = s.pbc.driveRequests.map (fun r => { r with stale := true }) ∧
    (∀ (j : Nat) (x : Pump), s.pbc.pumps[j]? = some x →
      let steered (z y : Pump) : Prop := Steered (c.pump j) s.now (targetSum c t.pbc j) { z with step := none } y
      ∃ y, t.pbc.pumps[j]? = some y ∧
        (x.state = .floor ∨ x.state = .off → steered x y) ∧
        (x.state = .active →
          steered { x with applied := if (c.pump j).retain then x.applied else (c.pump j).base } y) ∧
        (x.state = .probe → y.state = .active ∧ y.latch = x.latch ∧ y.preProbe = none ∧ y.target = targetSum c t.pbc j) ∧
        (∀ d, x.state = .probe → x.preProbe = some d →
          steered { x with state := .active, applied := if (c.pump j).retain then d else (c.pump j).base,
                           preProbe := none } y)) ∧
    t.flt.epoch = some (s.now + 3000) ∧ t.flt.refs = s.flt.refs ∧ t.flt.quiet = s.flt.quiet ∧
    (s.pru.state = .idle → t.flt.settle = s.flt.settle) ∧
    (∀ pr, (s.pru.state = .starting pr ∨ ∃ w, s.pru.state = .probing pr w) →
      SettleStarted s t pr.pump (s.now + 1000 * c.window)) ∧
    (∀ (a : Nat) (e : SpanEntry), s.flt.spans[a]? = some e →
      t.flt.spans[a]? =
        some (if s.lmu.cls? a = some .dark then ⟨255, .faulty, .lossOfLight, s.cfl.clock, .none⟩
              else ⟨0, .clear, .none, clearedSince e.since e.state, .none⟩)) ∧
    (∀ (a : Nat) (e : AmpEntry), s.flt.amps[a]? = some e →
      t.flt.amps[a]? =
        some (if e.latch then { e with state := .faulty, score := 255, inputLow := s.lmu.isLow a }
              else { e with score := 0, state := .clear, kind := .none, since := clearedSince e.since e.state,
                            inputLow := s.lmu.isLow a })) ∧
    (∀ (j : Nat) (e : PumpEntry), s.flt.pumps[j]? = some e →
      t.flt.pumps[j]? =
        some (if e.latch then { e with state := .faulty, score := 255, deficient := false }
              else { e with score := 0, state := .clear, kind := .none, since := clearedSince e.since e.state,
                            deficient := false })) ∧
    (∀ b, (s.bank b).state = .idle → t.bank b = { s.bank b with trackers := (t.bank b).trackers }) ∧
    (∀ b, (s.bank b).state ≠ .idle →
      (s.lmu.cls? (c.supAmp b) = some .dark →
        t.bank b = { state := .darkWatch, map := (side b).map fun q => ⟨q, .silent, none, 0, true⟩,
                     sweep := (s.bank b).sweep, dwell := none, confirm := none, trackers := (t.bank b).trackers }) ∧
      (s.lmu.cls? (c.supAmp b) ≠ some .dark →
        t.bank b = { state := .running, map := (side b).map fun q => ⟨q, .silent, none, 0, false⟩,
                     sweep := min ((s.bank b).sweep + 1) (2 ^ 32 - 1),
                     dwell := (side b).head?.map fun q => ⟨q, s.now + 50⟩, confirm := none,
                     trackers := (t.bank b).trackers })) ∧
    (∀ (b : Bank) (i : Nat) (k : Tracker), (s.bank b).trackers[i]? = some k →
      (t.bank b).trackers[i]? =
        some (if k.kind = some .pinned then
                { k with state := .acquiring, failed := 0, sync := none, reception := .hunting, ahead := [] }
              else { k with state := .idle, pos := none, failed := 0, sync := none, reception := .hunting,
                            ahead := [] })) ∧
    t.records = vacants .e ++ vacants .w ∧
    ∃ cut, t.restarted = some ⟨s.now, cut⟩ ∧
      (∀ b i ahead, ⟨b, i, ahead⟩ ∈ cut ↔
        (s.bank b).state = .running ∧ ∃ k, (s.bank b).trackers[i]? = some k ∧ k.reception = .reading ∧ k.ahead = ahead) ∧
      ∀ (b : Bank) (i q : Nat) (k : Tracker) (bits : List Bool), (s.bank b).trackers[i]? = some k →
        (s.bank b).state = .running → k.kind = some .pinned → k.reception = .reading → k.pos = some q → c.west ≠ c.east →
        let stream := k.ahead ++ bits
        let executes (e : FilterEntry) (d : Directive) : Prop :=
          e.mode = .settled ∧ e.lastId ≠ some d.id ∧ d.kind = .restart ∧ (d.target = c.position ∨ d.target = 255)
        let second (f : Frame) (d : Directive) : Prop :=
          acceptFrame q stream = some f ∧ f.directive = some d ∧
            (q = c.west ∧ executes s.filter.west d ∨ q = c.east ∧ executes s.filter.east d)
        let settled :=
          { t with
            spare := t.spare + 1
            restarted := some ⟨s.now, cut.filter fun x => decide (¬ (x.bank = b ∧ x.tracker = i))⟩ }
        ((∀ f d, ¬ second f d) → exec (.frameChecked b i bits) t = .next t) ∧
        ((t.bank b).state ≠ .running → exec (.frameChecked b i bits) t = .next t) ∧
        ∀ f d, second f d → (t.bank b).state = .running →
          (Config.restartsTogether t.spare = false → exec (.frameChecked b i bits) t = .next settled) ∧
          (Config.restartsTogether t.spare = true →
            let u := settled.received b i stream f
            exec (.frameChecked b i bits) t =
              .next (State.execute
                { u with
                  filter := if q = c.west then { s.filter with west := ⟨.settled, some d.id⟩ }
                            else { s.filter with east := ⟨.settled, some d.id⟩ } }
                .restart))

/-! ## Invariants that every step keeps -/

/-- R162, R168, R170: every step keeps the load's invariant and the shape that VALID fixes; and once the configuration is
VALID it stays so, with the same record image and strap, until a COLD_START. -/
def Obligations.EveryStepKeepsTheConfiguration : Prop :=
  ∀ s t : State, Loaded s → Shaped s → step s = .next t →
    Loaded t ∧ Shaped t ∧
      (s.cfl.valid = true → s.pending.head? ≠ some .coldStart →
        t.cfl.valid = true ∧ t.cfl.image = s.cfl.image ∧ t.cfl.strap = s.cfl.strap)

/-- Law L1 (R7). -/
def Obligations.EveryStepKeepsTheMetersInRange : Prop :=
  ∀ s t : State, MetersInRange s → step s = .next t → MetersInRange t

/-- Law L2 (R123), with R103's rule that a SPAN entry has a kind exactly while it is FAULTY. -/
def Obligations.EveryStepKeepsTheScoresSound : Prop :=
  ∀ s t : State, Loaded s → ScoresSound s → SpanKindsSound s → step s = .next t → ScoresSound t ∧ SpanKindsSound t

/-- Law L3 (R132): each target within floor and ceiling, each applied drive 0 when OFF and within floor and ceiling
otherwise; with R133, that the step timer runs exactly while the pump is BUSY, and R139, that a pre-probe drive is held
exactly in PROBE; and that every target is current, taken at once by an ACTIVE pump whose step interval is 0 (R132, R133).
-/
def Obligations.EveryStepKeepsThePumpsSound : Prop :=
  ∀ s t : State, Loaded s → PumpsSound s → step s = .next t → PumpsSound t ∧ (TargetsCurrent s → TargetsCurrent t)

/-- Law L4 (R59): no bank assigns one position to two trackers, and none a position that is not on its side. With it, R56
and R58: every position captured stays eligible, or its capture is released in the event that ends its eligibility. -/
def Obligations.EveryStepKeepsTheTrackersDistinct : Prop :=
  ∀ s t : State, Loaded s → MapsWhole s → TrackersDistinct s → step s = .next t →
    MapsWhole t ∧ TrackersDistinct t ∧ (CapturesEligible s → CapturesEligible t)

/-- R71: the neighbour records are those of the assigned trackers, one each. -/
def Obligations.EveryStepKeepsOneRecordForEachTracker : Prop :=
  ∀ s t : State, Loaded s → MapsWhole s → TrackersDistinct s → RecordsFollow s → step s = .next t → RecordsFollow t

/-- Laws L5 (R139), L6 (R142) and L9 (R180): at most one pump in PROBE, no two demands of one amplifier and reason, and no
more than 128 records held. -/
def Obligations.EveryStepKeepsProbeDemandsAndQueue : Prop :=
  ∀ s t : State, Loaded s → OneProbe s → DemandsDistinct s → QueueBounded s → step s = .next t →
    OneProbe t ∧ DemandsDistinct t ∧ QueueBounded t

/-- Law L7 (R18): the marker is that of the highest-priority condition that holds: ISOLATED for a bypassed amplifier or a
pump OFF by isolation, ALARM for a FAULTY entry, PROBING while the probe flag is set, otherwise NOMINAL. -/
def Obligations.EveryStepKeepsTheMarkerCurrent : Prop :=
  (∀ s t : State, MarkerCurrent s → step s = .next t → MarkerCurrent t) ∧
  ∀ s : State,
    let isolated : Prop :=
      (∃ a : Nat, s.pbc.bypass[a]? = some true) ∨ ∃ x ∈ s.pbc.pumps, x.state = .off ∧ x.latch = true
    let alarm : Prop :=
      (∃ e ∈ s.flt.spans, e.state = .faulty) ∨ (∃ e ∈ s.flt.amps, e.state = .faulty) ∨ ∃ e ∈ s.flt.pumps, e.state = .faulty
    let probing : Prop := ∃ pr w, s.pru.state = .probing pr w
    (isolated → s.markerNow = .isolated) ∧ (¬ isolated → alarm → s.markerNow = .alarm) ∧
      (¬ isolated → ¬ alarm → probing → s.markerNow = .probing) ∧
      (¬ isolated → ¬ alarm → ¬ probing → s.markerNow = .nominal) ∧
      (∀ x, s.ttx = .sending x → (MarkerCurrent s ↔ x.marker = s.markerNow))

/-- Law L8 (R135, R138): no supervisory-pair amplifier is bypassed, and each is fed by a pump that is neither OFF nor
FLOOR.  So each of them is always fed by a carrying pump of R20, and the tone leaves in both directions. -/
def Obligations.EveryStepKeepsTheSupervisoryPairFed : Prop :=
  ∀ s t : State, Loaded s → SupervisoryFed s → step s = .next t →
    SupervisoryFed t ∧
      (t.cfl.valid = true → ∀ b, ∃ j x, t.pbc.pumps[j]? = some x ∧ x.state ≠ .off ∧ t.carrying j = true ∧
        t.cfg.feeds j (t.cfg.supAmp b) = true)

/-- Law L11 (R122): an amplifier is bypassed exactly while its AMP entry is latched, and a pump is OFF by isolation exactly
while its PUMP entry is. -/
def Obligations.EveryStepKeepsTheLatchesInAgreement : Prop :=
  ∀ s t : State, Loaded s → LatchesAgree s → step s = .next t → LatchesAgree t
end

