-- ==== Sys2Proof/Laws/State.lean ====
section
/-! SUPPORT. What each update of the state leaves alone: one small lemma for each field and update, so that no proof unfolds
a record update. -/

namespace Sys2Proof.Machine

/-! ### reach -/

@[simp] theorem State.reach_cfl (s : State) (d : Moment) : (s.reach d).cfl = s.cfl := rfl
@[simp] theorem State.reach_lmu (s : State) (d : Moment) : (s.reach d).lmu = s.lmu := rfl
@[simp] theorem State.reach_ttx (s : State) (d : Moment) : (s.reach d).ttx = s.ttx := rfl
@[simp] theorem State.reach_rbe (s : State) (d : Moment) : (s.reach d).rbe = s.rbe := rfl
@[simp] theorem State.reach_rbw (s : State) (d : Moment) : (s.reach d).rbw = s.rbw := rfl
@[simp] theorem State.reach_filter (s : State) (d : Moment) : (s.reach d).filter = s.filter := rfl
@[simp] theorem State.reach_records (s : State) (d : Moment) : (s.reach d).records = s.records := rfl
@[simp] theorem State.reach_flt (s : State) (d : Moment) : (s.reach d).flt = s.flt := rfl
@[simp] theorem State.reach_pbc (s : State) (d : Moment) : (s.reach d).pbc = s.pbc := rfl
@[simp] theorem State.reach_pru (s : State) (d : Moment) : (s.reach d).pru = s.pru := rfl
@[simp] theorem State.reach_tpt (s : State) (d : Moment) : (s.reach d).tpt = s.tpt := rfl
@[simp] theorem State.reach_spare (s : State) (d : Moment) : (s.reach d).spare = s.spare := rfl
@[simp] theorem State.reach_restarted (s : State) (d : Moment) : (s.reach d).restarted = s.restarted := rfl
@[simp] theorem State.reach_spi (s : State) (d : Moment) : (s.reach d).spi = s.spi := rfl
@[simp] theorem State.reach_pending (s : State) (d : Moment) : (s.reach d).pending = s.pending := rfl
@[simp] theorem State.reach_cfg (s : State) (d : Moment) : (s.reach d).cfg = s.cfg := rfl
@[simp] theorem State.reach_now (s : State) (d : Moment) : (s.reach d).now = max s.now d := rfl

/-! ### report -/

@[simp] theorem State.report_now (s : State) : s.report.now = s.now := rfl
@[simp] theorem State.report_cfl (s : State) : s.report.cfl = s.cfl := rfl
@[simp] theorem State.report_lmu (s : State) : s.report.lmu = s.lmu := rfl
@[simp] theorem State.report_rbe (s : State) : s.report.rbe = s.rbe := rfl
@[simp] theorem State.report_rbw (s : State) : s.report.rbw = s.rbw := rfl
@[simp] theorem State.report_filter (s : State) : s.report.filter = s.filter := rfl
@[simp] theorem State.report_records (s : State) : s.report.records = s.records := rfl
@[simp] theorem State.report_flt (s : State) : s.report.flt = s.flt := rfl
@[simp] theorem State.report_pbc (s : State) : s.report.pbc = s.pbc := rfl
@[simp] theorem State.report_pru (s : State) : s.report.pru = s.pru := rfl
@[simp] theorem State.report_tpt (s : State) : s.report.tpt = s.tpt := rfl
@[simp] theorem State.report_spare (s : State) : s.report.spare = s.spare := rfl
@[simp] theorem State.report_restarted (s : State) : s.report.restarted = s.restarted := rfl
@[simp] theorem State.report_spi (s : State) : s.report.spi = s.spi := rfl
@[simp] theorem State.report_pending (s : State) : s.report.pending = s.pending := rfl
@[simp] theorem State.report_cfg (s : State) : s.report.cfg = s.cfg := rfl
@[simp] theorem State.report_ttx (s : State) : s.report.ttx = s.ttx.remark s.markerNow := rfl

/-! ### respond -/

@[simp] theorem State.respond_now (s : State) (r : Response) : (s.respond r).now = s.now := rfl
@[simp] theorem State.respond_cfl (s : State) (r : Response) : (s.respond r).cfl = s.cfl := rfl
@[simp] theorem State.respond_lmu (s : State) (r : Response) : (s.respond r).lmu = s.lmu := rfl
@[simp] theorem State.respond_ttx (s : State) (r : Response) : (s.respond r).ttx = s.ttx := rfl
@[simp] theorem State.respond_rbe (s : State) (r : Response) : (s.respond r).rbe = s.rbe := rfl
@[simp] theorem State.respond_rbw (s : State) (r : Response) : (s.respond r).rbw = s.rbw := rfl
@[simp] theorem State.respond_filter (s : State) (r : Response) : (s.respond r).filter = s.filter := rfl
@[simp] theorem State.respond_records (s : State) (r : Response) : (s.respond r).records = s.records := rfl
@[simp] theorem State.respond_flt (s : State) (r : Response) : (s.respond r).flt = s.flt := rfl
@[simp] theorem State.respond_pbc (s : State) (r : Response) : (s.respond r).pbc = s.pbc := rfl
@[simp] theorem State.respond_pru (s : State) (r : Response) : (s.respond r).pru = s.pru := rfl
@[simp] theorem State.respond_spare (s : State) (r : Response) : (s.respond r).spare = s.spare := rfl
@[simp] theorem State.respond_restarted (s : State) (r : Response) : (s.respond r).restarted = s.restarted := rfl
@[simp] theorem State.respond_spi (s : State) (r : Response) : (s.respond r).spi = s.spi := rfl
@[simp] theorem State.respond_pending (s : State) (r : Response) : (s.respond r).pending = s.pending := rfl
@[simp] theorem State.respond_cfg (s : State) (r : Response) : (s.respond r).cfg = s.cfg := rfl
@[simp] theorem State.respond_tpt (s : State) (r : Response) :
    (s.respond r).tpt = { s.tpt with response := some r } := rfl

/-! ### spend -/

@[simp] theorem State.spend_now (s : State) : s.spend.now = s.now := rfl
@[simp] theorem State.spend_cfl (s : State) : s.spend.cfl = s.cfl := rfl
@[simp] theorem State.spend_lmu (s : State) : s.spend.lmu = s.lmu := rfl
@[simp] theorem State.spend_ttx (s : State) : s.spend.ttx = s.ttx := rfl
@[simp] theorem State.spend_rbe (s : State) : s.spend.rbe = s.rbe := rfl
@[simp] theorem State.spend_rbw (s : State) : s.spend.rbw = s.rbw := rfl
@[simp] theorem State.spend_filter (s : State) : s.spend.filter = s.filter := rfl
@[simp] theorem State.spend_records (s : State) : s.spend.records = s.records := rfl
@[simp] theorem State.spend_flt (s : State) : s.spend.flt = s.flt := rfl
@[simp] theorem State.spend_pbc (s : State) : s.spend.pbc = s.pbc := rfl
@[simp] theorem State.spend_pru (s : State) : s.spend.pru = s.pru := rfl
@[simp] theorem State.spend_tpt (s : State) : s.spend.tpt = s.tpt := rfl
@[simp] theorem State.spend_pending (s : State) : s.spend.pending = s.pending := rfl
@[simp] theorem State.spend_cfg (s : State) : s.spend.cfg = s.cfg := rfl
@[simp] theorem State.spend_spare (s : State) : s.spend.spare = s.spare + 1 := rfl
@[simp] theorem State.spend_restarted (s : State) : s.spend.restarted = s.restarted := rfl
@[simp] theorem State.spend_spi (s : State) : s.spend.spi = s.spi := rfl

/-! ### settleCut -/

@[simp] theorem State.settleCut_now (s : State) (b : Bank) (t : Nat) : (s.settleCut b t).now = s.now := rfl
@[simp] theorem State.settleCut_cfl (s : State) (b : Bank) (t : Nat) : (s.settleCut b t).cfl = s.cfl := rfl
@[simp] theorem State.settleCut_lmu (s : State) (b : Bank) (t : Nat) : (s.settleCut b t).lmu = s.lmu := rfl
@[simp] theorem State.settleCut_ttx (s : State) (b : Bank) (t : Nat) : (s.settleCut b t).ttx = s.ttx := rfl
@[simp] theorem State.settleCut_rbe (s : State) (b : Bank) (t : Nat) : (s.settleCut b t).rbe = s.rbe := rfl
@[simp] theorem State.settleCut_rbw (s : State) (b : Bank) (t : Nat) : (s.settleCut b t).rbw = s.rbw := rfl
@[simp] theorem State.settleCut_filter (s : State) (b : Bank) (t : Nat) : (s.settleCut b t).filter = s.filter := rfl
@[simp] theorem State.settleCut_records (s : State) (b : Bank) (t : Nat) : (s.settleCut b t).records = s.records := rfl
@[simp] theorem State.settleCut_flt (s : State) (b : Bank) (t : Nat) : (s.settleCut b t).flt = s.flt := rfl
@[simp] theorem State.settleCut_pbc (s : State) (b : Bank) (t : Nat) : (s.settleCut b t).pbc = s.pbc := rfl
@[simp] theorem State.settleCut_pru (s : State) (b : Bank) (t : Nat) : (s.settleCut b t).pru = s.pru := rfl
@[simp] theorem State.settleCut_tpt (s : State) (b : Bank) (t : Nat) : (s.settleCut b t).tpt = s.tpt := rfl
@[simp] theorem State.settleCut_spare (s : State) (b : Bank) (t : Nat) : (s.settleCut b t).spare = s.spare := rfl
@[simp] theorem State.settleCut_spi (s : State) (b : Bank) (t : Nat) : (s.settleCut b t).spi = s.spi := rfl
@[simp] theorem State.settleCut_pending (s : State) (b : Bank) (t : Nat) : (s.settleCut b t).pending = s.pending := rfl
@[simp] theorem State.settleCut_cfg (s : State) (b : Bank) (t : Nat) : (s.settleCut b t).cfg = s.cfg := rfl

/-! ### setFilter -/

@[simp] theorem State.setFilter_now (s : State) (f : Filter) : (s.setFilter f).now = s.now := rfl
@[simp] theorem State.setFilter_cfl (s : State) (f : Filter) : (s.setFilter f).cfl = s.cfl := rfl
@[simp] theorem State.setFilter_lmu (s : State) (f : Filter) : (s.setFilter f).lmu = s.lmu := rfl
@[simp] theorem State.setFilter_ttx (s : State) (f : Filter) : (s.setFilter f).ttx = s.ttx := rfl
@[simp] theorem State.setFilter_rbe (s : State) (f : Filter) : (s.setFilter f).rbe = s.rbe := rfl
@[simp] theorem State.setFilter_rbw (s : State) (f : Filter) : (s.setFilter f).rbw = s.rbw := rfl
@[simp] theorem State.setFilter_records (s : State) (f : Filter) : (s.setFilter f).records = s.records := rfl
@[simp] theorem State.setFilter_flt (s : State) (f : Filter) : (s.setFilter f).flt = s.flt := rfl
@[simp] theorem State.setFilter_pbc (s : State) (f : Filter) : (s.setFilter f).pbc = s.pbc := rfl
@[simp] theorem State.setFilter_pru (s : State) (f : Filter) : (s.setFilter f).pru = s.pru := rfl
@[simp] theorem State.setFilter_tpt (s : State) (f : Filter) : (s.setFilter f).tpt = s.tpt := rfl
@[simp] theorem State.setFilter_spare (s : State) (f : Filter) : (s.setFilter f).spare = s.spare := rfl
@[simp] theorem State.setFilter_restarted (s : State) (f : Filter) : (s.setFilter f).restarted = s.restarted := rfl
@[simp] theorem State.setFilter_spi (s : State) (f : Filter) : (s.setFilter f).spi = s.spi := rfl
@[simp] theorem State.setFilter_pending (s : State) (f : Filter) : (s.setFilter f).pending = s.pending := rfl
@[simp] theorem State.setFilter_cfg (s : State) (f : Filter) : (s.setFilter f).cfg = s.cfg := rfl
@[simp] theorem State.setFilter_filter (s : State) (f : Filter) : (s.setFilter f).filter = f := rfl

/-! ### reviewResult -/

@[simp] theorem State.reviewResult_now (s : State) (j : Nat) (r : GivenResult) (w : Bool) :
    (s.reviewResult j r w).now = s.now := rfl
@[simp] theorem State.reviewResult_cfl (s : State) (j : Nat) (r : GivenResult) (w : Bool) :
    (s.reviewResult j r w).cfl = s.cfl := rfl
@[simp] theorem State.reviewResult_lmu (s : State) (j : Nat) (r : GivenResult) (w : Bool) :
    (s.reviewResult j r w).lmu = s.lmu := rfl
@[simp] theorem State.reviewResult_ttx (s : State) (j : Nat) (r : GivenResult) (w : Bool) :
    (s.reviewResult j r w).ttx = s.ttx := rfl
@[simp] theorem State.reviewResult_rbe (s : State) (j : Nat) (r : GivenResult) (w : Bool) :
    (s.reviewResult j r w).rbe = s.rbe := rfl
@[simp] theorem State.reviewResult_rbw (s : State) (j : Nat) (r : GivenResult) (w : Bool) :
    (s.reviewResult j r w).rbw = s.rbw := rfl
@[simp] theorem State.reviewResult_filter (s : State) (j : Nat) (r : GivenResult) (w : Bool) :
    (s.reviewResult j r w).filter = s.filter := rfl
@[simp] theorem State.reviewResult_records (s : State) (j : Nat) (r : GivenResult) (w : Bool) :
    (s.reviewResult j r w).records = s.records := rfl
@[simp] theorem State.reviewResult_pbc (s : State) (j : Nat) (r : GivenResult) (w : Bool) :
    (s.reviewResult j r w).pbc = s.pbc := rfl
@[simp] theorem State.reviewResult_pru (s : State) (j : Nat) (r : GivenResult) (w : Bool) :
    (s.reviewResult j r w).pru = s.pru := rfl
@[simp] theorem State.reviewResult_tpt (s : State) (j : Nat) (r : GivenResult) (w : Bool) :
    (s.reviewResult j r w).tpt = s.tpt := rfl
@[simp] theorem State.reviewResult_restarted (s : State) (j : Nat) (r : GivenResult) (w : Bool) :
    (s.reviewResult j r w).restarted = s.restarted := rfl
@[simp] theorem State.reviewResult_spi (s : State) (j : Nat) (r : GivenResult) (w : Bool) :
    (s.reviewResult j r w).spi = s.spi := rfl
@[simp] theorem State.reviewResult_pending (s : State) (j : Nat) (r : GivenResult) (w : Bool) :
    (s.reviewResult j r w).pending = s.pending := rfl
@[simp] theorem State.reviewResult_cfg (s : State) (j : Nat) (r : GivenResult) (w : Bool) :
    (s.reviewResult j r w).cfg = s.cfg := rfl
@[simp] theorem State.reviewResult_spare (s : State) (j : Nat) (r : GivenResult) (w : Bool) :
    (s.reviewResult j r w).spare = s.spare + 1 := rfl
@[simp] theorem State.reviewResult_settle (s : State) (j : Nat) (r : GivenResult) (w : Bool) :
    (s.reviewResult j r w).flt.settle = s.flt.settle := rfl

/-! ### askRestore -/

@[simp] theorem State.askRestore_now (s : State) (r : RestoreRequest) : (s.askRestore r).now = s.now := rfl
@[simp] theorem State.askRestore_cfl (s : State) (r : RestoreRequest) : (s.askRestore r).cfl = s.cfl := rfl
@[simp] theorem State.askRestore_lmu (s : State) (r : RestoreRequest) : (s.askRestore r).lmu = s.lmu := rfl
@[simp] theorem State.askRestore_ttx (s : State) (r : RestoreRequest) : (s.askRestore r).ttx = s.ttx := rfl
@[simp] theorem State.askRestore_rbe (s : State) (r : RestoreRequest) : (s.askRestore r).rbe = s.rbe := rfl
@[simp] theorem State.askRestore_rbw (s : State) (r : RestoreRequest) : (s.askRestore r).rbw = s.rbw := rfl
@[simp] theorem State.askRestore_filter (s : State) (r : RestoreRequest) : (s.askRestore r).filter = s.filter := rfl
@[simp] theorem State.askRestore_records (s : State) (r : RestoreRequest) : (s.askRestore r).records = s.records := rfl
@[simp] theorem State.askRestore_flt (s : State) (r : RestoreRequest) : (s.askRestore r).flt = s.flt := rfl
@[simp] theorem State.askRestore_pru (s : State) (r : RestoreRequest) : (s.askRestore r).pru = s.pru := rfl
@[simp] theorem State.askRestore_tpt (s : State) (r : RestoreRequest) : (s.askRestore r).tpt = s.tpt := rfl
@[simp] theorem State.askRestore_spare (s : State) (r : RestoreRequest) : (s.askRestore r).spare = s.spare := rfl
@[simp] theorem State.askRestore_restarted (s : State) (r : RestoreRequest) : (s.askRestore r).restarted = s.restarted := rfl
@[simp] theorem State.askRestore_spi (s : State) (r : RestoreRequest) : (s.askRestore r).spi = s.spi := rfl
@[simp] theorem State.askRestore_pending (s : State) (r : RestoreRequest) : (s.askRestore r).pending = s.pending := rfl
@[simp] theorem State.askRestore_cfg (s : State) (r : RestoreRequest) : (s.askRestore r).cfg = s.cfg := rfl
@[simp] theorem State.askRestore_pbc (s : State) (r : RestoreRequest) :
    (s.askRestore r).pbc = { s.pbc with restores := s.pbc.restores ++ [r] } := rfl

/-! ### startProbe -/

@[simp] theorem State.startProbe_now (s : State) (j : Nat) (src : ProbeSource) : (s.startProbe j src).now = s.now :=
  rfl
@[simp] theorem State.startProbe_cfl (s : State) (j : Nat) (src : ProbeSource) : (s.startProbe j src).cfl = s.cfl :=
  rfl
@[simp] theorem State.startProbe_lmu (s : State) (j : Nat) (src : ProbeSource) : (s.startProbe j src).lmu = s.lmu :=
  rfl
@[simp] theorem State.startProbe_ttx (s : State) (j : Nat) (src : ProbeSource) : (s.startProbe j src).ttx = s.ttx :=
  rfl
@[simp] theorem State.startProbe_rbe (s : State) (j : Nat) (src : ProbeSource) : (s.startProbe j src).rbe = s.rbe :=
  rfl
@[simp] theorem State.startProbe_rbw (s : State) (j : Nat) (src : ProbeSource) : (s.startProbe j src).rbw = s.rbw :=
  rfl
@[simp] theorem State.startProbe_filter (s : State) (j : Nat) (src : ProbeSource) : (s.startProbe j src).filter = s.filter :=
  rfl
@[simp] theorem State.startProbe_records (s : State) (j : Nat) (src : ProbeSource) : (s.startProbe j src).records = s.records :=
  rfl
@[simp] theorem State.startProbe_flt (s : State) (j : Nat) (src : ProbeSource) : (s.startProbe j src).flt = s.flt :=
  rfl
@[simp] theorem State.startProbe_tpt (s : State) (j : Nat) (src : ProbeSource) : (s.startProbe j src).tpt = s.tpt :=
  rfl
@[simp] theorem State.startProbe_spare (s : State) (j : Nat) (src : ProbeSource) : (s.startProbe j src).spare = s.spare :=
  rfl
@[simp] theorem State.startProbe_restarted (s : State) (j : Nat) (src : ProbeSource) : (s.startProbe j src).restarted = s.restarted :=
  rfl
@[simp] theorem State.startProbe_spi (s : State) (j : Nat) (src : ProbeSource) : (s.startProbe j src).spi = s.spi :=
  rfl
@[simp] theorem State.startProbe_pending (s : State) (j : Nat) (src : ProbeSource) : (s.startProbe j src).pending = s.pending :=
  rfl
@[simp] theorem State.startProbe_cfg (s : State) (j : Nat) (src : ProbeSource) : (s.startProbe j src).cfg = s.cfg :=
  rfl
@[simp] theorem State.startProbe_pbc (s : State) (j : Nat) (src : ProbeSource) :
    (s.startProbe j src).pbc = { s.pbc with driveRequests := s.pbc.driveRequests ++ [⟨j, false⟩] } := rfl
@[simp] theorem State.startProbe_pru (s : State) (j : Nat) (src : ProbeSource) :
    (s.startProbe j src).pru = { s.pru with state := .starting ⟨j, src, s.membersOf j⟩ } := rfl

/-! ### finishProbe -/

@[simp] theorem State.finishProbe_now (s : State) (pr : Probe) : (s.finishProbe pr).now = s.now := rfl
@[simp] theorem State.finishProbe_cfl (s : State) (pr : Probe) : (s.finishProbe pr).cfl = s.cfl := rfl
@[simp] theorem State.finishProbe_lmu (s : State) (pr : Probe) : (s.finishProbe pr).lmu = s.lmu := rfl
@[simp] theorem State.finishProbe_ttx (s : State) (pr : Probe) : (s.finishProbe pr).ttx = s.ttx := rfl
@[simp] theorem State.finishProbe_rbe (s : State) (pr : Probe) : (s.finishProbe pr).rbe = s.rbe := rfl
@[simp] theorem State.finishProbe_rbw (s : State) (pr : Probe) : (s.finishProbe pr).rbw = s.rbw := rfl
@[simp] theorem State.finishProbe_filter (s : State) (pr : Probe) : (s.finishProbe pr).filter = s.filter := rfl
@[simp] theorem State.finishProbe_records (s : State) (pr : Probe) : (s.finishProbe pr).records = s.records := rfl
@[simp] theorem State.finishProbe_pbc (s : State) (pr : Probe) : (s.finishProbe pr).pbc = s.pbc := rfl
@[simp] theorem State.finishProbe_tpt (s : State) (pr : Probe) : (s.finishProbe pr).tpt = s.tpt := rfl
@[simp] theorem State.finishProbe_spare (s : State) (pr : Probe) : (s.finishProbe pr).spare = s.spare := rfl
@[simp] theorem State.finishProbe_restarted (s : State) (pr : Probe) : (s.finishProbe pr).restarted = s.restarted := rfl
@[simp] theorem State.finishProbe_spi (s : State) (pr : Probe) : (s.finishProbe pr).spi = s.spi := rfl
@[simp] theorem State.finishProbe_pending (s : State) (pr : Probe) : (s.finishProbe pr).pending = s.pending := rfl
@[simp] theorem State.finishProbe_cfg (s : State) (pr : Probe) : (s.finishProbe pr).cfg = s.cfg := rfl
@[simp] theorem State.finishProbe_pru (s : State) (pr : Probe) :
    (s.finishProbe pr).pru = s.pru.endProbe s.cfg s.now pr.source := rfl
@[simp] theorem State.finishProbe_flt (s : State) (pr : Probe) :
    (s.finishProbe pr).flt = s.flt.startSettle s.cfg s.now pr.pump := rfl

/-! ### abortProbe -/

@[simp] theorem State.abortProbe_now (s : State) (pr : Probe) : (s.abortProbe pr).now = s.now := rfl
@[simp] theorem State.abortProbe_cfl (s : State) (pr : Probe) : (s.abortProbe pr).cfl = s.cfl := rfl
@[simp] theorem State.abortProbe_lmu (s : State) (pr : Probe) : (s.abortProbe pr).lmu = s.lmu := rfl
@[simp] theorem State.abortProbe_ttx (s : State) (pr : Probe) : (s.abortProbe pr).ttx = s.ttx := rfl
@[simp] theorem State.abortProbe_rbe (s : State) (pr : Probe) : (s.abortProbe pr).rbe = s.rbe := rfl
@[simp] theorem State.abortProbe_rbw (s : State) (pr : Probe) : (s.abortProbe pr).rbw = s.rbw := rfl
@[simp] theorem State.abortProbe_filter (s : State) (pr : Probe) : (s.abortProbe pr).filter = s.filter := rfl
@[simp] theorem State.abortProbe_records (s : State) (pr : Probe) : (s.abortProbe pr).records = s.records := rfl
@[simp] theorem State.abortProbe_pbc (s : State) (pr : Probe) : (s.abortProbe pr).pbc = s.pbc := rfl
@[simp] theorem State.abortProbe_tpt (s : State) (pr : Probe) : (s.abortProbe pr).tpt = s.tpt := rfl
@[simp] theorem State.abortProbe_spare (s : State) (pr : Probe) : (s.abortProbe pr).spare = s.spare := rfl
@[simp] theorem State.abortProbe_restarted (s : State) (pr : Probe) : (s.abortProbe pr).restarted = s.restarted := rfl
@[simp] theorem State.abortProbe_spi (s : State) (pr : Probe) : (s.abortProbe pr).spi = s.spi := rfl
@[simp] theorem State.abortProbe_pending (s : State) (pr : Probe) : (s.abortProbe pr).pending = s.pending := rfl
@[simp] theorem State.abortProbe_cfg (s : State) (pr : Probe) : (s.abortProbe pr).cfg = s.cfg := rfl
@[simp] theorem State.abortProbe_flt (s : State) (pr : Probe) :
    (s.abortProbe pr).flt = s.flt.startSettle s.cfg s.now pr.pump := rfl
@[simp] theorem State.abortProbe_pru (s : State) (pr : Probe) :
    (s.abortProbe pr).pru =
      { s.pru.endProbe s.cfg s.now pr.source with
        scheduled := decide (pr.source ≠ .scheduled) && (s.pru.endProbe s.cfg s.now pr.source).scheduled } := rfl

/-! ### tellPbc -/

@[simp] theorem State.tellPbc_now (s : State) (q : Nat) : (s.tellPbc q).now = s.now := rfl
@[simp] theorem State.tellPbc_cfl (s : State) (q : Nat) : (s.tellPbc q).cfl = s.cfl := rfl
@[simp] theorem State.tellPbc_lmu (s : State) (q : Nat) : (s.tellPbc q).lmu = s.lmu := rfl
@[simp] theorem State.tellPbc_ttx (s : State) (q : Nat) : (s.tellPbc q).ttx = s.ttx := rfl
@[simp] theorem State.tellPbc_rbe (s : State) (q : Nat) : (s.tellPbc q).rbe = s.rbe := rfl
@[simp] theorem State.tellPbc_rbw (s : State) (q : Nat) : (s.tellPbc q).rbw = s.rbw := rfl
@[simp] theorem State.tellPbc_filter (s : State) (q : Nat) : (s.tellPbc q).filter = s.filter := rfl
@[simp] theorem State.tellPbc_records (s : State) (q : Nat) : (s.tellPbc q).records = s.records := rfl
@[simp] theorem State.tellPbc_flt (s : State) (q : Nat) : (s.tellPbc q).flt = s.flt := rfl
@[simp] theorem State.tellPbc_pru (s : State) (q : Nat) : (s.tellPbc q).pru = s.pru := rfl
@[simp] theorem State.tellPbc_tpt (s : State) (q : Nat) : (s.tellPbc q).tpt = s.tpt := rfl
@[simp] theorem State.tellPbc_spare (s : State) (q : Nat) : (s.tellPbc q).spare = s.spare := rfl
@[simp] theorem State.tellPbc_restarted (s : State) (q : Nat) : (s.tellPbc q).restarted = s.restarted := rfl
@[simp] theorem State.tellPbc_spi (s : State) (q : Nat) : (s.tellPbc q).spi = s.spi := rfl
@[simp] theorem State.tellPbc_pending (s : State) (q : Nat) : (s.tellPbc q).pending = s.pending := rfl
@[simp] theorem State.tellPbc_cfg (s : State) (q : Nat) : (s.tellPbc q).cfg = s.cfg := rfl
@[simp] theorem State.tellPbc_pbc (s : State) (q : Nat) :
    (s.tellPbc q).pbc = s.pbc.hear s.cfg s.now s.records q := rfl

/-! ### tellFlt -/

@[simp] theorem State.tellFlt_now (s : State) (q : Nat) : (s.tellFlt q).now = s.now := rfl
@[simp] theorem State.tellFlt_cfl (s : State) (q : Nat) : (s.tellFlt q).cfl = s.cfl := rfl
@[simp] theorem State.tellFlt_lmu (s : State) (q : Nat) : (s.tellFlt q).lmu = s.lmu := rfl
@[simp] theorem State.tellFlt_ttx (s : State) (q : Nat) : (s.tellFlt q).ttx = s.ttx := rfl
@[simp] theorem State.tellFlt_rbe (s : State) (q : Nat) : (s.tellFlt q).rbe = s.rbe := rfl
@[simp] theorem State.tellFlt_rbw (s : State) (q : Nat) : (s.tellFlt q).rbw = s.rbw := rfl
@[simp] theorem State.tellFlt_filter (s : State) (q : Nat) : (s.tellFlt q).filter = s.filter := rfl
@[simp] theorem State.tellFlt_records (s : State) (q : Nat) : (s.tellFlt q).records = s.records := rfl
@[simp] theorem State.tellFlt_pbc (s : State) (q : Nat) : (s.tellFlt q).pbc = s.pbc := rfl
@[simp] theorem State.tellFlt_pru (s : State) (q : Nat) : (s.tellFlt q).pru = s.pru := rfl
@[simp] theorem State.tellFlt_tpt (s : State) (q : Nat) : (s.tellFlt q).tpt = s.tpt := rfl
@[simp] theorem State.tellFlt_spare (s : State) (q : Nat) : (s.tellFlt q).spare = s.spare := rfl
@[simp] theorem State.tellFlt_restarted (s : State) (q : Nat) : (s.tellFlt q).restarted = s.restarted := rfl
@[simp] theorem State.tellFlt_spi (s : State) (q : Nat) : (s.tellFlt q).spi = s.spi := rfl
@[simp] theorem State.tellFlt_pending (s : State) (q : Nat) : (s.tellFlt q).pending = s.pending := rfl
@[simp] theorem State.tellFlt_cfg (s : State) (q : Nat) : (s.tellFlt q).cfg = s.cfg := rfl
@[simp] theorem State.tellFlt_flt (s : State) (q : Nat) :
    (s.tellFlt q).flt = s.flt.hear s.cfg s.now s.records q := rfl

/-! ### createRecord -/

@[simp] theorem State.createRecord_now (s : State) (b : Bank) (q : Nat) : (s.createRecord b q).now = s.now := rfl
@[simp] theorem State.createRecord_cfl (s : State) (b : Bank) (q : Nat) : (s.createRecord b q).cfl = s.cfl := rfl
@[simp] theorem State.createRecord_lmu (s : State) (b : Bank) (q : Nat) : (s.createRecord b q).lmu = s.lmu := rfl
@[simp] theorem State.createRecord_ttx (s : State) (b : Bank) (q : Nat) : (s.createRecord b q).ttx = s.ttx := rfl
@[simp] theorem State.createRecord_rbe (s : State) (b : Bank) (q : Nat) : (s.createRecord b q).rbe = s.rbe := rfl
@[simp] theorem State.createRecord_rbw (s : State) (b : Bank) (q : Nat) : (s.createRecord b q).rbw = s.rbw := rfl
@[simp] theorem State.createRecord_filter (s : State) (b : Bank) (q : Nat) : (s.createRecord b q).filter = s.filter :=
  rfl
@[simp] theorem State.createRecord_flt (s : State) (b : Bank) (q : Nat) : (s.createRecord b q).flt = s.flt := rfl
@[simp] theorem State.createRecord_pbc (s : State) (b : Bank) (q : Nat) : (s.createRecord b q).pbc = s.pbc := rfl
@[simp] theorem State.createRecord_pru (s : State) (b : Bank) (q : Nat) : (s.createRecord b q).pru = s.pru := rfl
@[simp] theorem State.createRecord_tpt (s : State) (b : Bank) (q : Nat) : (s.createRecord b q).tpt = s.tpt := rfl
@[simp] theorem State.createRecord_spare (s : State) (b : Bank) (q : Nat) : (s.createRecord b q).spare = s.spare :=
  rfl
@[simp] theorem State.createRecord_restarted (s : State) (b : Bank) (q : Nat) : (s.createRecord b q).restarted = s.restarted :=
  rfl
@[simp] theorem State.createRecord_spi (s : State) (b : Bank) (q : Nat) : (s.createRecord b q).spi = s.spi :=
  rfl
@[simp] theorem State.createRecord_pending (s : State) (b : Bank) (q : Nat) : (s.createRecord b q).pending = s.pending :=
  rfl
@[simp] theorem State.createRecord_cfg (s : State) (b : Bank) (q : Nat) : (s.createRecord b q).cfg = s.cfg := rfl
@[simp] theorem State.createRecord_records (s : State) (b : Bank) (q : Nat) :
    (s.createRecord b q).records = s.records ++ [Neighbour.vacant s.now b q] := rfl

/-! ### removeRecord -/

@[simp] theorem State.removeRecord_now (s : State) (q : Nat) : (s.removeRecord q).now = s.now := rfl
@[simp] theorem State.removeRecord_cfl (s : State) (q : Nat) : (s.removeRecord q).cfl = s.cfl := rfl
@[simp] theorem State.removeRecord_lmu (s : State) (q : Nat) : (s.removeRecord q).lmu = s.lmu := rfl
@[simp] theorem State.removeRecord_ttx (s : State) (q : Nat) : (s.removeRecord q).ttx = s.ttx := rfl
@[simp] theorem State.removeRecord_rbe (s : State) (q : Nat) : (s.removeRecord q).rbe = s.rbe := rfl
@[simp] theorem State.removeRecord_rbw (s : State) (q : Nat) : (s.removeRecord q).rbw = s.rbw := rfl
@[simp] theorem State.removeRecord_filter (s : State) (q : Nat) : (s.removeRecord q).filter = s.filter := rfl
@[simp] theorem State.removeRecord_flt (s : State) (q : Nat) : (s.removeRecord q).flt = s.flt := rfl
@[simp] theorem State.removeRecord_pru (s : State) (q : Nat) : (s.removeRecord q).pru = s.pru := rfl
@[simp] theorem State.removeRecord_tpt (s : State) (q : Nat) : (s.removeRecord q).tpt = s.tpt := rfl
@[simp] theorem State.removeRecord_spare (s : State) (q : Nat) : (s.removeRecord q).spare = s.spare := rfl
@[simp] theorem State.removeRecord_restarted (s : State) (q : Nat) : (s.removeRecord q).restarted = s.restarted := rfl
@[simp] theorem State.removeRecord_spi (s : State) (q : Nat) : (s.removeRecord q).spi = s.spi := rfl
@[simp] theorem State.removeRecord_pending (s : State) (q : Nat) : (s.removeRecord q).pending = s.pending := rfl
@[simp] theorem State.removeRecord_cfg (s : State) (q : Nat) : (s.removeRecord q).cfg = s.cfg := rfl
@[simp] theorem State.removeRecord_records (s : State) (q : Nat) :
    (s.removeRecord q).records = s.records.filter fun r => r.origin != q := rfl

/-! ### setBank -/

@[simp] theorem State.setBank_now (s : State) (b : Bank) (x : RxBank) : (s.setBank b x).now = s.now :=
  by cases b <;> rfl
@[simp] theorem State.setBank_cfl (s : State) (b : Bank) (x : RxBank) : (s.setBank b x).cfl = s.cfl :=
  by cases b <;> rfl
@[simp] theorem State.setBank_lmu (s : State) (b : Bank) (x : RxBank) : (s.setBank b x).lmu = s.lmu :=
  by cases b <;> rfl
@[simp] theorem State.setBank_ttx (s : State) (b : Bank) (x : RxBank) : (s.setBank b x).ttx = s.ttx :=
  by cases b <;> rfl
@[simp] theorem State.setBank_filter (s : State) (b : Bank) (x : RxBank) : (s.setBank b x).filter = s.filter :=
  by cases b <;> rfl
@[simp] theorem State.setBank_records (s : State) (b : Bank) (x : RxBank) : (s.setBank b x).records = s.records :=
  by cases b <;> rfl
@[simp] theorem State.setBank_flt (s : State) (b : Bank) (x : RxBank) : (s.setBank b x).flt = s.flt :=
  by cases b <;> rfl
@[simp] theorem State.setBank_pbc (s : State) (b : Bank) (x : RxBank) : (s.setBank b x).pbc = s.pbc :=
  by cases b <;> rfl
@[simp] theorem State.setBank_pru (s : State) (b : Bank) (x : RxBank) : (s.setBank b x).pru = s.pru :=
  by cases b <;> rfl
@[simp] theorem State.setBank_tpt (s : State) (b : Bank) (x : RxBank) : (s.setBank b x).tpt = s.tpt :=
  by cases b <;> rfl
@[simp] theorem State.setBank_spare (s : State) (b : Bank) (x : RxBank) : (s.setBank b x).spare = s.spare :=
  by cases b <;> rfl
@[simp] theorem State.setBank_restarted (s : State) (b : Bank) (x : RxBank) : (s.setBank b x).restarted = s.restarted :=
  by cases b <;> rfl
@[simp] theorem State.setBank_spi (s : State) (b : Bank) (x : RxBank) : (s.setBank b x).spi = s.spi :=
  by cases b <;> rfl
@[simp] theorem State.setBank_pending (s : State) (b : Bank) (x : RxBank) : (s.setBank b x).pending = s.pending :=
  by cases b <;> rfl
@[simp] theorem State.setBank_cfg (s : State) (b : Bank) (x : RxBank) : (s.setBank b x).cfg = s.cfg :=
  by simp [State.cfg]
@[simp] theorem State.setBank_bank (s : State) (b : Bank) (x : RxBank) : (s.setBank b x).bank b = x := by
  cases b <;> rfl
@[simp] theorem State.setBank_e (s : State) (x : RxBank) : s.setBank .e x = { s with rbe := x } := rfl
@[simp] theorem State.setBank_w (s : State) (x : RxBank) : s.setBank .w x = { s with rbw := x } := rfl

/-! ### onTracker -/

@[simp] theorem State.onTracker_now (s : State) (b : Bank) (i : Nat) (g : Tracker → Tracker) : (s.onTracker b i g).now = s.now :=
  by cases b <;> rfl
@[simp] theorem State.onTracker_cfl (s : State) (b : Bank) (i : Nat) (g : Tracker → Tracker) : (s.onTracker b i g).cfl = s.cfl :=
  by cases b <;> rfl
@[simp] theorem State.onTracker_lmu (s : State) (b : Bank) (i : Nat) (g : Tracker → Tracker) : (s.onTracker b i g).lmu = s.lmu :=
  by cases b <;> rfl
@[simp] theorem State.onTracker_ttx (s : State) (b : Bank) (i : Nat) (g : Tracker → Tracker) : (s.onTracker b i g).ttx = s.ttx :=
  by cases b <;> rfl
@[simp] theorem State.onTracker_filter (s : State) (b : Bank) (i : Nat) (g : Tracker → Tracker) : (s.onTracker b i g).filter = s.filter :=
  by cases b <;> rfl
@[simp] theorem State.onTracker_records (s : State) (b : Bank) (i : Nat) (g : Tracker → Tracker) : (s.onTracker b i g).records = s.records :=
  by cases b <;> rfl
@[simp] theorem State.onTracker_flt (s : State) (b : Bank) (i : Nat) (g : Tracker → Tracker) : (s.onTracker b i g).flt = s.flt :=
  by cases b <;> rfl
@[simp] theorem State.onTracker_pbc (s : State) (b : Bank) (i : Nat) (g : Tracker → Tracker) : (s.onTracker b i g).pbc = s.pbc :=
  by cases b <;> rfl
@[simp] theorem State.onTracker_pru (s : State) (b : Bank) (i : Nat) (g : Tracker → Tracker) : (s.onTracker b i g).pru = s.pru :=
  by cases b <;> rfl
@[simp] theorem State.onTracker_tpt (s : State) (b : Bank) (i : Nat) (g : Tracker → Tracker) : (s.onTracker b i g).tpt = s.tpt :=
  by cases b <;> rfl
@[simp] theorem State.onTracker_spare (s : State) (b : Bank) (i : Nat) (g : Tracker → Tracker) : (s.onTracker b i g).spare = s.spare :=
  by cases b <;> rfl
@[simp] theorem State.onTracker_restarted (s : State) (b : Bank) (i : Nat) (g : Tracker → Tracker) : (s.onTracker b i g).restarted = s.restarted :=
  by cases b <;> rfl
@[simp] theorem State.onTracker_spi (s : State) (b : Bank) (i : Nat) (g : Tracker → Tracker) : (s.onTracker b i g).spi = s.spi :=
  by cases b <;> rfl
@[simp] theorem State.onTracker_pending (s : State) (b : Bank) (i : Nat) (g : Tracker → Tracker) : (s.onTracker b i g).pending = s.pending :=
  by cases b <;> rfl
@[simp] theorem State.onTracker_cfg (s : State) (b : Bank) (i : Nat) (g : Tracker → Tracker) : (s.onTracker b i g).cfg = s.cfg :=
  by simp [State.cfg]
@[simp] theorem State.onTracker_bank (s : State) (b : Bank) (i : Nat) (g : Tracker → Tracker) :
    (s.onTracker b i g).bank b = (s.bank b).onTracker i g := by
  cases b <;> rfl

/-! ### offerAll -/

@[simp] theorem State.offerAll_now (s : State) (o : Nat) (l : List Change) : (s.offerAll o l).now = s.now := by
  unfold State.offerAll; split <;> rfl
@[simp] theorem State.offerAll_cfl (s : State) (o : Nat) (l : List Change) : (s.offerAll o l).cfl = s.cfl := by
  unfold State.offerAll; split <;> rfl
@[simp] theorem State.offerAll_lmu (s : State) (o : Nat) (l : List Change) : (s.offerAll o l).lmu = s.lmu := by
  unfold State.offerAll; split <;> rfl
@[simp] theorem State.offerAll_ttx (s : State) (o : Nat) (l : List Change) : (s.offerAll o l).ttx = s.ttx := by
  unfold State.offerAll; split <;> rfl
@[simp] theorem State.offerAll_rbe (s : State) (o : Nat) (l : List Change) : (s.offerAll o l).rbe = s.rbe := by
  unfold State.offerAll; split <;> rfl
@[simp] theorem State.offerAll_rbw (s : State) (o : Nat) (l : List Change) : (s.offerAll o l).rbw = s.rbw := by
  unfold State.offerAll; split <;> rfl
@[simp] theorem State.offerAll_filter (s : State) (o : Nat) (l : List Change) : (s.offerAll o l).filter = s.filter :=
  by
  unfold State.offerAll; split <;> rfl
@[simp] theorem State.offerAll_records (s : State) (o : Nat) (l : List Change) : (s.offerAll o l).records = s.records :=
  by
  unfold State.offerAll; split <;> rfl
@[simp] theorem State.offerAll_flt (s : State) (o : Nat) (l : List Change) : (s.offerAll o l).flt = s.flt := by
  unfold State.offerAll; split <;> rfl
@[simp] theorem State.offerAll_pbc (s : State) (o : Nat) (l : List Change) : (s.offerAll o l).pbc = s.pbc := by
  unfold State.offerAll; split <;> rfl
@[simp] theorem State.offerAll_pru (s : State) (o : Nat) (l : List Change) : (s.offerAll o l).pru = s.pru := by
  unfold State.offerAll; split <;> rfl
@[simp] theorem State.offerAll_spare (s : State) (o : Nat) (l : List Change) : (s.offerAll o l).spare = s.spare := by
  unfold State.offerAll; split <;> rfl
@[simp] theorem State.offerAll_restarted (s : State) (o : Nat) (l : List Change) : (s.offerAll o l).restarted = s.restarted := by
  unfold State.offerAll; split <;> rfl
@[simp] theorem State.offerAll_spi (s : State) (o : Nat) (l : List Change) : (s.offerAll o l).spi = s.spi := by
  unfold State.offerAll; split <;> rfl
@[simp] theorem State.offerAll_pending (s : State) (o : Nat) (l : List Change) : (s.offerAll o l).pending = s.pending :=
  by
  unfold State.offerAll; split <;> rfl
@[simp] theorem State.offerAll_cfg (s : State) (o : Nat) (l : List Change) : (s.offerAll o l).cfg = s.cfg :=
  by simp [State.cfg]

/-! ### release -/

@[simp] theorem State.release_now (s : State) : s.release.now = s.now := rfl
@[simp] theorem State.release_cfl (s : State) : s.release.cfl = s.cfl := rfl
@[simp] theorem State.release_lmu (s : State) : s.release.lmu = s.lmu := rfl
@[simp] theorem State.release_rbe (s : State) : s.release.rbe = s.rbe := rfl
@[simp] theorem State.release_rbw (s : State) : s.release.rbw = s.rbw := rfl
@[simp] theorem State.release_filter (s : State) : s.release.filter = s.filter := rfl
@[simp] theorem State.release_records (s : State) : s.release.records = s.records := rfl
@[simp] theorem State.release_pru (s : State) : s.release.pru = s.pru := rfl
@[simp] theorem State.release_tpt (s : State) : s.release.tpt = s.tpt := rfl
@[simp] theorem State.release_spare (s : State) : s.release.spare = s.spare := rfl
@[simp] theorem State.release_restarted (s : State) : s.release.restarted = s.restarted := rfl
@[simp] theorem State.release_spi (s : State) : s.release.spi = s.spi := rfl
@[simp] theorem State.release_pending (s : State) : s.release.pending = s.pending := rfl
@[simp] theorem State.release_cfg (s : State) : s.release.cfg = s.cfg := rfl

/-! ### rereference -/

@[simp] theorem State.rereference_now (s : State) : s.rereference.now = s.now := rfl
@[simp] theorem State.rereference_cfl (s : State) : s.rereference.cfl = s.cfl := rfl
@[simp] theorem State.rereference_lmu (s : State) : s.rereference.lmu = s.lmu := rfl
@[simp] theorem State.rereference_rbe (s : State) : s.rereference.rbe = s.rbe := rfl
@[simp] theorem State.rereference_rbw (s : State) : s.rereference.rbw = s.rbw := rfl
@[simp] theorem State.rereference_filter (s : State) : s.rereference.filter = s.filter := rfl
@[simp] theorem State.rereference_records (s : State) : s.rereference.records = s.records := rfl
@[simp] theorem State.rereference_pbc (s : State) : s.rereference.pbc = s.pbc := rfl
@[simp] theorem State.rereference_pru (s : State) : s.rereference.pru = s.pru := rfl
@[simp] theorem State.rereference_tpt (s : State) : s.rereference.tpt = s.tpt := rfl
@[simp] theorem State.rereference_spare (s : State) : s.rereference.spare = s.spare := rfl
@[simp] theorem State.rereference_restarted (s : State) : s.rereference.restarted = s.restarted := rfl
@[simp] theorem State.rereference_spi (s : State) : s.rereference.spi = s.spi := rfl
@[simp] theorem State.rereference_pending (s : State) : s.rereference.pending = s.pending := rfl
@[simp] theorem State.rereference_cfg (s : State) : s.rereference.cfg = s.cfg := rfl

/-! ### warmRestart -/

@[simp] theorem State.warmRestart_now (s : State) : s.warmRestart.now = s.now := rfl
@[simp] theorem State.warmRestart_cfl (s : State) : s.warmRestart.cfl = s.cfl := rfl
@[simp] theorem State.warmRestart_lmu (s : State) : s.warmRestart.lmu = s.lmu := rfl
@[simp] theorem State.warmRestart_filter (s : State) : s.warmRestart.filter = s.filter := rfl
@[simp] theorem State.warmRestart_tpt (s : State) : s.warmRestart.tpt = s.tpt := rfl
@[simp] theorem State.warmRestart_spare (s : State) : s.warmRestart.spare = s.spare := rfl
@[simp] theorem State.warmRestart_restarted (s : State) :
    s.warmRestart.restarted = some ⟨s.now, s.rbe.readings .e ++ s.rbw.readings .w⟩ := rfl
@[simp] theorem State.warmRestart_spi (s : State) : s.warmRestart.spi = s.spi := rfl
@[simp] theorem State.warmRestart_pending (s : State) : s.warmRestart.pending = s.pending := rfl
@[simp] theorem State.warmRestart_cfg (s : State) : s.warmRestart.cfg = s.cfg := rfl

/-! ### startSending -/

@[simp] theorem State.startSending_now (s : State) : s.startSending.now = s.now := rfl
@[simp] theorem State.startSending_cfl (s : State) : s.startSending.cfl = s.cfl := rfl
@[simp] theorem State.startSending_lmu (s : State) : s.startSending.lmu = s.lmu := rfl
@[simp] theorem State.startSending_rbe (s : State) : s.startSending.rbe = s.rbe := rfl
@[simp] theorem State.startSending_rbw (s : State) : s.startSending.rbw = s.rbw := rfl
@[simp] theorem State.startSending_filter (s : State) : s.startSending.filter = s.filter := rfl
@[simp] theorem State.startSending_records (s : State) : s.startSending.records = s.records := rfl
@[simp] theorem State.startSending_flt (s : State) : s.startSending.flt = s.flt := rfl
@[simp] theorem State.startSending_pbc (s : State) : s.startSending.pbc = s.pbc := rfl
@[simp] theorem State.startSending_pru (s : State) : s.startSending.pru = s.pru := rfl
@[simp] theorem State.startSending_tpt (s : State) : s.startSending.tpt = s.tpt := rfl
@[simp] theorem State.startSending_spare (s : State) : s.startSending.spare = s.spare := rfl
@[simp] theorem State.startSending_restarted (s : State) : s.startSending.restarted = s.restarted := rfl
@[simp] theorem State.startSending_spi (s : State) : s.startSending.spi = s.spi := rfl
@[simp] theorem State.startSending_pending (s : State) : s.startSending.pending = s.pending := rfl
@[simp] theorem State.startSending_cfg (s : State) : s.startSending.cfg = s.cfg := rfl

/-! ### declare -/

@[simp] theorem State.declare_now (s : State) (raw : Readings) : (s.declare raw).now = s.now := rfl
@[simp] theorem State.declare_filter (s : State) (raw : Readings) : (s.declare raw).filter = s.filter := rfl
@[simp] theorem State.declare_tpt (s : State) (raw : Readings) : (s.declare raw).tpt = s.tpt := rfl
@[simp] theorem State.declare_spare (s : State) (raw : Readings) : (s.declare raw).spare = s.spare := rfl
@[simp] theorem State.declare_restarted (s : State) (raw : Readings) : (s.declare raw).restarted = s.restarted := rfl
@[simp] theorem State.declare_spi (s : State) (raw : Readings) : (s.declare raw).spi = s.spi := rfl
@[simp] theorem State.declare_pending (s : State) (raw : Readings) : (s.declare raw).pending = s.pending := rfl

end Sys2Proof.Machine
end

