-- ==== Sys2Proof/Laws/Ops.lean ====
section
/-! SUPPORT. What each operation that several meanings share leaves alone, and what it makes of the fields it does change where
one line says it, so that later proofs cite these and do not unfold it. -/

namespace Sys2Proof.Machine

/-! ### collisionTest -/

@[simp] theorem State.collisionTest_now (s : State) (q : Nat) : (s.collisionTest q).now = s.now := by
  unfold State.collisionTest; split <;> try split
  all_goals simp
@[simp] theorem State.collisionTest_cfl (s : State) (q : Nat) : (s.collisionTest q).cfl = s.cfl := by
  unfold State.collisionTest; split <;> try split
  all_goals simp
@[simp] theorem State.collisionTest_lmu (s : State) (q : Nat) : (s.collisionTest q).lmu = s.lmu := by
  unfold State.collisionTest; split <;> try split
  all_goals simp
@[simp] theorem State.collisionTest_rbe (s : State) (q : Nat) : (s.collisionTest q).rbe = s.rbe := by
  unfold State.collisionTest; split <;> try split
  all_goals simp
@[simp] theorem State.collisionTest_rbw (s : State) (q : Nat) : (s.collisionTest q).rbw = s.rbw := by
  unfold State.collisionTest; split <;> try split
  all_goals simp
@[simp] theorem State.collisionTest_filter (s : State) (q : Nat) : (s.collisionTest q).filter = s.filter := by
  unfold State.collisionTest; split <;> try split
  all_goals simp
@[simp] theorem State.collisionTest_records (s : State) (q : Nat) : (s.collisionTest q).records = s.records := by
  unfold State.collisionTest; split <;> try split
  all_goals simp
@[simp] theorem State.collisionTest_tpt (s : State) (q : Nat) : (s.collisionTest q).tpt = s.tpt := by
  unfold State.collisionTest; split <;> try split
  all_goals simp
@[simp] theorem State.collisionTest_spare (s : State) (q : Nat) : (s.collisionTest q).spare = s.spare := by
  unfold State.collisionTest; split <;> try split
  all_goals simp
@[simp] theorem State.collisionTest_restarted (s : State) (q : Nat) : (s.collisionTest q).restarted = s.restarted := by
  unfold State.collisionTest; split <;> try split
  all_goals simp
@[simp] theorem State.collisionTest_spi (s : State) (q : Nat) : (s.collisionTest q).spi = s.spi := by
  unfold State.collisionTest; split <;> try split
  all_goals simp
@[simp] theorem State.collisionTest_pending (s : State) (q : Nat) : (s.collisionTest q).pending = s.pending := by
  unfold State.collisionTest; split <;> try split
  all_goals simp
@[simp] theorem State.collisionTest_cfg (s : State) (q : Nat) : (s.collisionTest q).cfg = s.cfg := by simp [State.cfg]

@[simp] theorem State.collisionTest_pumps (s : State) (q : Nat) :
    (s.collisionTest q).pbc.pumps = s.pbc.pumps := by
  unfold State.collisionTest; split <;> try split
  all_goals simp
@[simp] theorem State.collisionTest_bypass (s : State) (q : Nat) :
    (s.collisionTest q).pbc.bypass = s.pbc.bypass := by
  unfold State.collisionTest; split <;> try split
  all_goals simp
@[simp] theorem State.collisionTest_demands (s : State) (q : Nat) :
    (s.collisionTest q).pbc.demands = s.pbc.demands := by
  unfold State.collisionTest; split <;> try split
  all_goals simp
@[simp] theorem State.collisionTest_switches (s : State) (q : Nat) :
    (s.collisionTest q).pbc.switches = s.pbc.switches := by
  unfold State.collisionTest; split <;> try split
  all_goals simp
@[simp] theorem State.collisionTest_isolations (s : State) (q : Nat) :
    (s.collisionTest q).pbc.isolations = s.pbc.isolations := by
  unfold State.collisionTest; split <;> try split
  all_goals simp
@[simp] theorem State.collisionTest_driveRequests (s : State) (q : Nat) :
    (s.collisionTest q).pbc.driveRequests = s.pbc.driveRequests := by
  unfold State.collisionTest; split <;> try split
  all_goals simp

/-! ### endLate -/

@[simp] theorem State.endLate_now (s : State) (j : Nat) : (s.endLate j).now = s.now := by
  unfold State.endLate; dsimp only; split <;> try split
  all_goals rfl
@[simp] theorem State.endLate_cfl (s : State) (j : Nat) : (s.endLate j).cfl = s.cfl := by
  unfold State.endLate; dsimp only; split <;> try split
  all_goals rfl
@[simp] theorem State.endLate_lmu (s : State) (j : Nat) : (s.endLate j).lmu = s.lmu := by
  unfold State.endLate; dsimp only; split <;> try split
  all_goals rfl
@[simp] theorem State.endLate_ttx (s : State) (j : Nat) : (s.endLate j).ttx = s.ttx := by
  unfold State.endLate; dsimp only; split <;> try split
  all_goals rfl
@[simp] theorem State.endLate_rbe (s : State) (j : Nat) : (s.endLate j).rbe = s.rbe := by
  unfold State.endLate; dsimp only; split <;> try split
  all_goals rfl
@[simp] theorem State.endLate_rbw (s : State) (j : Nat) : (s.endLate j).rbw = s.rbw := by
  unfold State.endLate; dsimp only; split <;> try split
  all_goals rfl
@[simp] theorem State.endLate_filter (s : State) (j : Nat) : (s.endLate j).filter = s.filter := by
  unfold State.endLate; dsimp only; split <;> try split
  all_goals rfl
@[simp] theorem State.endLate_records (s : State) (j : Nat) : (s.endLate j).records = s.records := by
  unfold State.endLate; dsimp only; split <;> try split
  all_goals rfl
@[simp] theorem State.endLate_pbc (s : State) (j : Nat) : (s.endLate j).pbc = s.pbc := by
  unfold State.endLate; dsimp only; split <;> try split
  all_goals rfl
@[simp] theorem State.endLate_pru (s : State) (j : Nat) : (s.endLate j).pru = s.pru := by
  unfold State.endLate; dsimp only; split <;> try split
  all_goals rfl
@[simp] theorem State.endLate_tpt (s : State) (j : Nat) : (s.endLate j).tpt = s.tpt := by
  unfold State.endLate; dsimp only; split <;> try split
  all_goals rfl
@[simp] theorem State.endLate_restarted (s : State) (j : Nat) : (s.endLate j).restarted = s.restarted := by
  unfold State.endLate; dsimp only; split <;> try split
  all_goals rfl
@[simp] theorem State.endLate_spi (s : State) (j : Nat) : (s.endLate j).spi = s.spi := by
  unfold State.endLate; dsimp only; split <;> try split
  all_goals rfl
@[simp] theorem State.endLate_pending (s : State) (j : Nat) : (s.endLate j).pending = s.pending := by
  unfold State.endLate; dsimp only; split <;> try split
  all_goals rfl
@[simp] theorem State.endLate_cfg (s : State) (j : Nat) : (s.endLate j).cfg = s.cfg := by simp [State.cfg]
@[simp] theorem State.endLate_settle (s : State) (j : Nat) :
    (s.endLate j).flt.settle = (s.flt.startSettle s.cfg s.now j).settle := by
  unfold State.endLate; dsimp only; split <;> try split
  all_goals rfl

/-- All that the PBC's late end of a probe can do: the settle times start, and a result that still stands as it was given is kept
or taken back. -/
theorem State.endLate_cases (s : State) (j : Nat) :
    s.endLate j = { s with flt := s.flt.startSettle s.cfg s.now j } ∨
      ∃ r, s.pbc.givenResult j = some r ∧ s.flt.pumps[j]? = some r.after ∧
        s.endLate j =
          State.reviewResult { s with flt := s.flt.startSettle s.cfg s.now j } j r (Config.resultWithdrawn s.spare) := by
  unfold State.endLate
  dsimp only
  split
  · next r h =>
    split
    · next ha => exact .inr ⟨r, h, ha, rfl⟩
    · exact .inl rfl
  · exact .inl rfl

/-! ### probeTaken -/

@[simp] theorem State.probeTaken_now (s : State) (j : Nat) : (s.probeTaken j).now = s.now := by
  unfold State.probeTaken; split <;> try split
  all_goals simp
@[simp] theorem State.probeTaken_cfl (s : State) (j : Nat) : (s.probeTaken j).cfl = s.cfl := by
  unfold State.probeTaken; split <;> try split
  all_goals simp
@[simp] theorem State.probeTaken_lmu (s : State) (j : Nat) : (s.probeTaken j).lmu = s.lmu := by
  unfold State.probeTaken; split <;> try split
  all_goals simp
@[simp] theorem State.probeTaken_ttx (s : State) (j : Nat) : (s.probeTaken j).ttx = s.ttx := by
  unfold State.probeTaken; split <;> try split
  all_goals simp
@[simp] theorem State.probeTaken_rbe (s : State) (j : Nat) : (s.probeTaken j).rbe = s.rbe := by
  unfold State.probeTaken; split <;> try split
  all_goals simp
@[simp] theorem State.probeTaken_rbw (s : State) (j : Nat) : (s.probeTaken j).rbw = s.rbw := by
  unfold State.probeTaken; split <;> try split
  all_goals simp
@[simp] theorem State.probeTaken_filter (s : State) (j : Nat) : (s.probeTaken j).filter = s.filter := by
  unfold State.probeTaken; split <;> try split
  all_goals simp
@[simp] theorem State.probeTaken_records (s : State) (j : Nat) : (s.probeTaken j).records = s.records := by
  unfold State.probeTaken; split <;> try split
  all_goals simp
@[simp] theorem State.probeTaken_pbc (s : State) (j : Nat) : (s.probeTaken j).pbc = s.pbc := by
  unfold State.probeTaken; split <;> try split
  all_goals simp
@[simp] theorem State.probeTaken_tpt (s : State) (j : Nat) : (s.probeTaken j).tpt = s.tpt := by
  unfold State.probeTaken; split <;> try split
  all_goals simp
@[simp] theorem State.probeTaken_restarted (s : State) (j : Nat) : (s.probeTaken j).restarted = s.restarted := by
  unfold State.probeTaken; split <;> try split
  all_goals simp
@[simp] theorem State.probeTaken_spi (s : State) (j : Nat) : (s.probeTaken j).spi = s.spi := by
  unfold State.probeTaken; split <;> try split
  all_goals simp
@[simp] theorem State.probeTaken_pending (s : State) (j : Nat) : (s.probeTaken j).pending = s.pending := by
  unfold State.probeTaken; split <;> try split
  all_goals simp
@[simp] theorem State.probeTaken_cfg (s : State) (j : Nat) : (s.probeTaken j).cfg = s.cfg := by simp [State.cfg]

/-! ### tellPru -/

@[simp] theorem State.tellPru_now (s : State) (q : Nat) : (s.tellPru q).now = s.now := by
  unfold State.tellPru; split <;> simp
@[simp] theorem State.tellPru_cfl (s : State) (q : Nat) : (s.tellPru q).cfl = s.cfl := by
  unfold State.tellPru; split <;> simp
@[simp] theorem State.tellPru_lmu (s : State) (q : Nat) : (s.tellPru q).lmu = s.lmu := by
  unfold State.tellPru; split <;> simp
@[simp] theorem State.tellPru_rbe (s : State) (q : Nat) : (s.tellPru q).rbe = s.rbe := by
  unfold State.tellPru; split <;> simp
@[simp] theorem State.tellPru_rbw (s : State) (q : Nat) : (s.tellPru q).rbw = s.rbw := by
  unfold State.tellPru; split <;> simp
@[simp] theorem State.tellPru_filter (s : State) (q : Nat) : (s.tellPru q).filter = s.filter := by
  unfold State.tellPru; split <;> simp
@[simp] theorem State.tellPru_records (s : State) (q : Nat) : (s.tellPru q).records = s.records := by
  unfold State.tellPru; split <;> simp
@[simp] theorem State.tellPru_tpt (s : State) (q : Nat) : (s.tellPru q).tpt = s.tpt := by
  unfold State.tellPru; split <;> simp
@[simp] theorem State.tellPru_spare (s : State) (q : Nat) : (s.tellPru q).spare = s.spare := by
  unfold State.tellPru; split <;> simp
@[simp] theorem State.tellPru_restarted (s : State) (q : Nat) : (s.tellPru q).restarted = s.restarted := by
  unfold State.tellPru; split <;> simp
@[simp] theorem State.tellPru_spi (s : State) (q : Nat) : (s.tellPru q).spi = s.spi := by
  unfold State.tellPru; split <;> simp
@[simp] theorem State.tellPru_pending (s : State) (q : Nat) : (s.tellPru q).pending = s.pending := by
  unfold State.tellPru; split <;> simp
@[simp] theorem State.tellPru_cfg (s : State) (q : Nat) : (s.tellPru q).cfg = s.cfg := by simp [State.cfg]

@[simp] theorem State.tellPru_pumps (s : State) (q : Nat) : (s.tellPru q).pbc.pumps = s.pbc.pumps := by
  unfold State.tellPru; split <;> simp
@[simp] theorem State.tellPru_bypass (s : State) (q : Nat) : (s.tellPru q).pbc.bypass = s.pbc.bypass := by
  unfold State.tellPru; split <;> simp
@[simp] theorem State.tellPru_demands (s : State) (q : Nat) : (s.tellPru q).pbc.demands = s.pbc.demands := by
  unfold State.tellPru; split <;> simp
@[simp] theorem State.tellPru_switches (s : State) (q : Nat) : (s.tellPru q).pbc.switches = s.pbc.switches := by
  unfold State.tellPru; split <;> simp
@[simp] theorem State.tellPru_isolations (s : State) (q : Nat) : (s.tellPru q).pbc.isolations = s.pbc.isolations := by
  unfold State.tellPru; split <;> simp
@[simp] theorem State.tellPru_driveRequests (s : State) (q : Nat) : (s.tellPru q).pbc.driveRequests = s.pbc.driveRequests := by
  unfold State.tellPru; split <;> simp

/-! ### announceReplaced -/

@[simp] theorem State.announceReplaced_now (s : State) (q : Nat) : (s.announceReplaced q).now = s.now :=
  by simp [State.announceReplaced]
@[simp] theorem State.announceReplaced_cfl (s : State) (q : Nat) : (s.announceReplaced q).cfl = s.cfl :=
  by simp [State.announceReplaced]
@[simp] theorem State.announceReplaced_lmu (s : State) (q : Nat) : (s.announceReplaced q).lmu = s.lmu :=
  by simp [State.announceReplaced]
@[simp] theorem State.announceReplaced_rbe (s : State) (q : Nat) : (s.announceReplaced q).rbe = s.rbe :=
  by simp [State.announceReplaced]
@[simp] theorem State.announceReplaced_rbw (s : State) (q : Nat) : (s.announceReplaced q).rbw = s.rbw :=
  by simp [State.announceReplaced]
@[simp] theorem State.announceReplaced_filter (s : State) (q : Nat) : (s.announceReplaced q).filter = s.filter :=
  by simp [State.announceReplaced]
@[simp] theorem State.announceReplaced_records (s : State) (q : Nat) : (s.announceReplaced q).records = s.records :=
  by simp [State.announceReplaced]
@[simp] theorem State.announceReplaced_tpt (s : State) (q : Nat) : (s.announceReplaced q).tpt = s.tpt :=
  by simp [State.announceReplaced]
@[simp] theorem State.announceReplaced_spare (s : State) (q : Nat) : (s.announceReplaced q).spare = s.spare :=
  by simp [State.announceReplaced]
@[simp] theorem State.announceReplaced_restarted (s : State) (q : Nat) : (s.announceReplaced q).restarted = s.restarted :=
  by simp [State.announceReplaced]
@[simp] theorem State.announceReplaced_spi (s : State) (q : Nat) : (s.announceReplaced q).spi = s.spi :=
  by simp [State.announceReplaced]
@[simp] theorem State.announceReplaced_pending (s : State) (q : Nat) : (s.announceReplaced q).pending = s.pending :=
  by simp [State.announceReplaced]
@[simp] theorem State.announceReplaced_cfg (s : State) (q : Nat) : (s.announceReplaced q).cfg = s.cfg :=
  by simp [State.cfg]

/-! ### replaceRecord -/

@[simp] theorem State.replaceRecord_now (s : State) (f : Frame) : (s.replaceRecord f).now = s.now :=
  by simp [State.replaceRecord]
@[simp] theorem State.replaceRecord_cfl (s : State) (f : Frame) : (s.replaceRecord f).cfl = s.cfl :=
  by simp [State.replaceRecord]
@[simp] theorem State.replaceRecord_lmu (s : State) (f : Frame) : (s.replaceRecord f).lmu = s.lmu :=
  by simp [State.replaceRecord]
@[simp] theorem State.replaceRecord_rbe (s : State) (f : Frame) : (s.replaceRecord f).rbe = s.rbe :=
  by simp [State.replaceRecord]
@[simp] theorem State.replaceRecord_rbw (s : State) (f : Frame) : (s.replaceRecord f).rbw = s.rbw :=
  by simp [State.replaceRecord]
@[simp] theorem State.replaceRecord_filter (s : State) (f : Frame) : (s.replaceRecord f).filter = s.filter :=
  by simp [State.replaceRecord]
@[simp] theorem State.replaceRecord_spare (s : State) (f : Frame) : (s.replaceRecord f).spare = s.spare :=
  by simp [State.replaceRecord]
@[simp] theorem State.replaceRecord_restarted (s : State) (f : Frame) : (s.replaceRecord f).restarted = s.restarted :=
  by simp [State.replaceRecord]
@[simp] theorem State.replaceRecord_spi (s : State) (f : Frame) : (s.replaceRecord f).spi = s.spi :=
  by simp [State.replaceRecord]
@[simp] theorem State.replaceRecord_pending (s : State) (f : Frame) : (s.replaceRecord f).pending = s.pending :=
  by simp [State.replaceRecord]
@[simp] theorem State.replaceRecord_cfg (s : State) (f : Frame) : (s.replaceRecord f).cfg = s.cfg :=
  by simp [State.cfg]
@[simp] theorem State.replaceRecord_records (s : State) (f : Frame) :
    (s.replaceRecord f).records = updateRecord f.origin (Neighbour.replace s.now f) s.records := by
  simp [State.replaceRecord]

@[simp] theorem State.replaceRecord_pumps (s : State) (f : Frame) :
    (s.replaceRecord f).pbc.pumps =
      (s.pbc.hear s.cfg s.now (updateRecord f.origin (Neighbour.replace s.now f) s.records) f.origin).pumps := by
  simp [State.replaceRecord, State.announceReplaced]; rfl
@[simp] theorem State.replaceRecord_bypass (s : State) (f : Frame) :
    (s.replaceRecord f).pbc.bypass =
      (s.pbc.hear s.cfg s.now (updateRecord f.origin (Neighbour.replace s.now f) s.records) f.origin).bypass := by
  simp [State.replaceRecord, State.announceReplaced]; rfl
@[simp] theorem State.replaceRecord_demands (s : State) (f : Frame) :
    (s.replaceRecord f).pbc.demands =
      (s.pbc.hear s.cfg s.now (updateRecord f.origin (Neighbour.replace s.now f) s.records) f.origin).demands := by
  simp [State.replaceRecord, State.announceReplaced]; rfl
@[simp] theorem State.replaceRecord_switches (s : State) (f : Frame) :
    (s.replaceRecord f).pbc.switches =
      (s.pbc.hear s.cfg s.now (updateRecord f.origin (Neighbour.replace s.now f) s.records) f.origin).switches := by
  simp [State.replaceRecord, State.announceReplaced]; rfl
@[simp] theorem State.replaceRecord_isolations (s : State) (f : Frame) :
    (s.replaceRecord f).pbc.isolations =
      (s.pbc.hear s.cfg s.now (updateRecord f.origin (Neighbour.replace s.now f) s.records) f.origin).isolations := by
  simp [State.replaceRecord, State.announceReplaced]; rfl
@[simp] theorem State.replaceRecord_driveRequests (s : State) (f : Frame) :
    (s.replaceRecord f).pbc.driveRequests =
      (s.pbc.hear s.cfg s.now (updateRecord f.origin (Neighbour.replace s.now f) s.records) f.origin).driveRequests := by
  simp [State.replaceRecord, State.announceReplaced]; rfl

/-! ### endRemappedProbe -/

@[simp] theorem State.endRemappedProbe_now (s : State) : s.endRemappedProbe.now = s.now := by
  unfold State.endRemappedProbe; split <;> try split
  all_goals simp
@[simp] theorem State.endRemappedProbe_cfl (s : State) : s.endRemappedProbe.cfl = s.cfl := by
  unfold State.endRemappedProbe; split <;> try split
  all_goals simp
@[simp] theorem State.endRemappedProbe_lmu (s : State) : s.endRemappedProbe.lmu = s.lmu := by
  unfold State.endRemappedProbe; split <;> try split
  all_goals simp
@[simp] theorem State.endRemappedProbe_ttx (s : State) : s.endRemappedProbe.ttx = s.ttx := by
  unfold State.endRemappedProbe; split <;> try split
  all_goals simp
@[simp] theorem State.endRemappedProbe_rbe (s : State) : s.endRemappedProbe.rbe = s.rbe := by
  unfold State.endRemappedProbe; split <;> try split
  all_goals simp
@[simp] theorem State.endRemappedProbe_rbw (s : State) : s.endRemappedProbe.rbw = s.rbw := by
  unfold State.endRemappedProbe; split <;> try split
  all_goals simp
@[simp] theorem State.endRemappedProbe_filter (s : State) : s.endRemappedProbe.filter = s.filter := by
  unfold State.endRemappedProbe; split <;> try split
  all_goals simp
@[simp] theorem State.endRemappedProbe_records (s : State) : s.endRemappedProbe.records = s.records := by
  unfold State.endRemappedProbe; split <;> try split
  all_goals simp
@[simp] theorem State.endRemappedProbe_pbc (s : State) : s.endRemappedProbe.pbc = s.pbc := by
  unfold State.endRemappedProbe; split <;> try split
  all_goals simp
@[simp] theorem State.endRemappedProbe_tpt (s : State) : s.endRemappedProbe.tpt = s.tpt := by
  unfold State.endRemappedProbe; split <;> try split
  all_goals simp
@[simp] theorem State.endRemappedProbe_restarted (s : State) : s.endRemappedProbe.restarted = s.restarted := by
  unfold State.endRemappedProbe; split <;> try split
  all_goals simp
@[simp] theorem State.endRemappedProbe_spi (s : State) : s.endRemappedProbe.spi = s.spi := by
  unfold State.endRemappedProbe; split <;> try split
  all_goals simp
@[simp] theorem State.endRemappedProbe_pending (s : State) : s.endRemappedProbe.pending = s.pending := by
  unfold State.endRemappedProbe; split <;> try split
  all_goals simp
@[simp] theorem State.endRemappedProbe_cfg (s : State) : s.endRemappedProbe.cfg = s.cfg := by simp [State.cfg]

/-! ### remap -/

@[simp] theorem State.remap_now (s : State) : s.remap.now = s.now := by simp [State.remap]
@[simp] theorem State.remap_cfl (s : State) : s.remap.cfl = s.cfl := by simp [State.remap]
@[simp] theorem State.remap_lmu (s : State) : s.remap.lmu = s.lmu := by simp [State.remap]
@[simp] theorem State.remap_ttx (s : State) : s.remap.ttx = s.ttx := by simp [State.remap]
@[simp] theorem State.remap_rbe (s : State) : s.remap.rbe = s.rbe := by simp [State.remap]
@[simp] theorem State.remap_rbw (s : State) : s.remap.rbw = s.rbw := by simp [State.remap]
@[simp] theorem State.remap_filter (s : State) : s.remap.filter = s.filter := by simp [State.remap]
@[simp] theorem State.remap_records (s : State) : s.remap.records = s.records := by simp [State.remap]
@[simp] theorem State.remap_tpt (s : State) : s.remap.tpt = s.tpt := by simp [State.remap]
@[simp] theorem State.remap_restarted (s : State) : s.remap.restarted = s.restarted := by simp [State.remap]
@[simp] theorem State.remap_spi (s : State) : s.remap.spi = s.spi := by simp [State.remap]
@[simp] theorem State.remap_pending (s : State) : s.remap.pending = s.pending := by simp [State.remap]
@[simp] theorem State.remap_cfg (s : State) : s.remap.cfg = s.cfg := by simp [State.cfg]
@[simp] theorem State.remap_pbc (s : State) : s.remap.pbc = s.pbc.remap s.cfg s.now := by simp [State.remap]

/-! ### bypass -/

@[simp] theorem State.bypass_now (s : State) (a : Nat) (k : AmpKind) : (s.bypass a k).now = s.now :=
  by simp [State.bypass]
@[simp] theorem State.bypass_cfl (s : State) (a : Nat) (k : AmpKind) : (s.bypass a k).cfl = s.cfl :=
  by simp [State.bypass]
@[simp] theorem State.bypass_lmu (s : State) (a : Nat) (k : AmpKind) : (s.bypass a k).lmu = s.lmu :=
  by simp [State.bypass]
@[simp] theorem State.bypass_rbe (s : State) (a : Nat) (k : AmpKind) : (s.bypass a k).rbe = s.rbe :=
  by simp [State.bypass]
@[simp] theorem State.bypass_rbw (s : State) (a : Nat) (k : AmpKind) : (s.bypass a k).rbw = s.rbw :=
  by simp [State.bypass]
@[simp] theorem State.bypass_filter (s : State) (a : Nat) (k : AmpKind) : (s.bypass a k).filter = s.filter :=
  by simp [State.bypass]
@[simp] theorem State.bypass_records (s : State) (a : Nat) (k : AmpKind) : (s.bypass a k).records = s.records :=
  by simp [State.bypass]
@[simp] theorem State.bypass_tpt (s : State) (a : Nat) (k : AmpKind) : (s.bypass a k).tpt = s.tpt :=
  by simp [State.bypass]
@[simp] theorem State.bypass_restarted (s : State) (a : Nat) (k : AmpKind) : (s.bypass a k).restarted = s.restarted :=
  by simp [State.bypass]
@[simp] theorem State.bypass_spi (s : State) (a : Nat) (k : AmpKind) : (s.bypass a k).spi = s.spi :=
  by simp [State.bypass]
@[simp] theorem State.bypass_pending (s : State) (a : Nat) (k : AmpKind) : (s.bypass a k).pending = s.pending :=
  by simp [State.bypass]
@[simp] theorem State.bypass_cfg (s : State) (a : Nat) (k : AmpKind) : (s.bypass a k).cfg = s.cfg :=
  by simp [State.cfg]
@[simp] theorem State.bypass_pbc (s : State) (a : Nat) (k : AmpKind) :
    (s.bypass a k).pbc =
      Pbc.remap { s.pbc with bypass := s.pbc.bypass.set a true, switches := s.pbc.switches.set a true } s.cfg s.now := by
  simp [State.bypass]; rfl

/-! ### isolatePump -/

@[simp] theorem State.isolatePump_now (s : State) (j : Nat) : (s.isolatePump j).now = s.now := by
  unfold State.isolatePump; split <;> simp
@[simp] theorem State.isolatePump_cfl (s : State) (j : Nat) : (s.isolatePump j).cfl = s.cfl := by
  unfold State.isolatePump; split <;> simp
@[simp] theorem State.isolatePump_lmu (s : State) (j : Nat) : (s.isolatePump j).lmu = s.lmu := by
  unfold State.isolatePump; split <;> simp
@[simp] theorem State.isolatePump_rbe (s : State) (j : Nat) : (s.isolatePump j).rbe = s.rbe := by
  unfold State.isolatePump; split <;> simp
@[simp] theorem State.isolatePump_rbw (s : State) (j : Nat) : (s.isolatePump j).rbw = s.rbw := by
  unfold State.isolatePump; split <;> simp
@[simp] theorem State.isolatePump_filter (s : State) (j : Nat) : (s.isolatePump j).filter = s.filter := by
  unfold State.isolatePump; split <;> simp
@[simp] theorem State.isolatePump_records (s : State) (j : Nat) : (s.isolatePump j).records = s.records := by
  unfold State.isolatePump; split <;> simp
@[simp] theorem State.isolatePump_tpt (s : State) (j : Nat) : (s.isolatePump j).tpt = s.tpt := by
  unfold State.isolatePump; split <;> simp
@[simp] theorem State.isolatePump_restarted (s : State) (j : Nat) : (s.isolatePump j).restarted = s.restarted := by
  unfold State.isolatePump; split <;> simp
@[simp] theorem State.isolatePump_spi (s : State) (j : Nat) : (s.isolatePump j).spi = s.spi := by
  unfold State.isolatePump; split <;> simp
@[simp] theorem State.isolatePump_pending (s : State) (j : Nat) : (s.isolatePump j).pending = s.pending := by
  unfold State.isolatePump; split <;> simp
@[simp] theorem State.isolatePump_cfg (s : State) (j : Nat) : (s.isolatePump j).cfg = s.cfg := by simp [State.cfg]
@[simp] theorem State.isolatePump_pbc (s : State) (j : Nat) :
    (s.isolatePump j).pbc =
      Pbc.retarget { s.pbc with pumps := s.pbc.pumps.modify j fun x => { x.toOff with latch := true } } s.cfg s.now := by
  unfold State.isolatePump; split <;> simp

/-! ### scheduledAttempt -/

@[simp] theorem State.scheduledAttempt_now (s : State) : s.scheduledAttempt.now = s.now := by
  unfold State.scheduledAttempt; split <;> try split
  all_goals simp
@[simp] theorem State.scheduledAttempt_cfl (s : State) : s.scheduledAttempt.cfl = s.cfl := by
  unfold State.scheduledAttempt; split <;> try split
  all_goals simp
@[simp] theorem State.scheduledAttempt_lmu (s : State) : s.scheduledAttempt.lmu = s.lmu := by
  unfold State.scheduledAttempt; split <;> try split
  all_goals simp
@[simp] theorem State.scheduledAttempt_ttx (s : State) : s.scheduledAttempt.ttx = s.ttx := by
  unfold State.scheduledAttempt; split <;> try split
  all_goals simp
@[simp] theorem State.scheduledAttempt_rbe (s : State) : s.scheduledAttempt.rbe = s.rbe := by
  unfold State.scheduledAttempt; split <;> try split
  all_goals simp
@[simp] theorem State.scheduledAttempt_rbw (s : State) : s.scheduledAttempt.rbw = s.rbw := by
  unfold State.scheduledAttempt; split <;> try split
  all_goals simp
@[simp] theorem State.scheduledAttempt_filter (s : State) : s.scheduledAttempt.filter = s.filter := by
  unfold State.scheduledAttempt; split <;> try split
  all_goals simp
@[simp] theorem State.scheduledAttempt_records (s : State) : s.scheduledAttempt.records = s.records := by
  unfold State.scheduledAttempt; split <;> try split
  all_goals simp
@[simp] theorem State.scheduledAttempt_flt (s : State) : s.scheduledAttempt.flt = s.flt := by
  unfold State.scheduledAttempt; split <;> try split
  all_goals simp
@[simp] theorem State.scheduledAttempt_tpt (s : State) : s.scheduledAttempt.tpt = s.tpt := by
  unfold State.scheduledAttempt; split <;> try split
  all_goals simp
@[simp] theorem State.scheduledAttempt_spare (s : State) : s.scheduledAttempt.spare = s.spare := by
  unfold State.scheduledAttempt; split <;> try split
  all_goals simp
@[simp] theorem State.scheduledAttempt_restarted (s : State) : s.scheduledAttempt.restarted = s.restarted := by
  unfold State.scheduledAttempt; split <;> try split
  all_goals simp
@[simp] theorem State.scheduledAttempt_spi (s : State) : s.scheduledAttempt.spi = s.spi := by
  unfold State.scheduledAttempt; split <;> try split
  all_goals simp
@[simp] theorem State.scheduledAttempt_pending (s : State) : s.scheduledAttempt.pending = s.pending := by
  unfold State.scheduledAttempt; split <;> try split
  all_goals simp
@[simp] theorem State.scheduledAttempt_cfg (s : State) : s.scheduledAttempt.cfg = s.cfg := by simp [State.cfg]
@[simp] theorem State.scheduledAttempt_pumps (s : State) :
    s.scheduledAttempt.pbc.pumps = s.pbc.pumps := by
  unfold State.scheduledAttempt; split <;> try split
  all_goals simp
@[simp] theorem State.scheduledAttempt_bypass (s : State) :
    s.scheduledAttempt.pbc.bypass = s.pbc.bypass := by
  unfold State.scheduledAttempt; split <;> try split
  all_goals simp
@[simp] theorem State.scheduledAttempt_demands (s : State) :
    s.scheduledAttempt.pbc.demands = s.pbc.demands := by
  unfold State.scheduledAttempt; split <;> try split
  all_goals simp
@[simp] theorem State.scheduledAttempt_switches (s : State) :
    s.scheduledAttempt.pbc.switches = s.pbc.switches := by
  unfold State.scheduledAttempt; split <;> try split
  all_goals simp
@[simp] theorem State.scheduledAttempt_isolations (s : State) :
    s.scheduledAttempt.pbc.isolations = s.pbc.isolations := by
  unfold State.scheduledAttempt; split <;> try split
  all_goals simp
@[simp] theorem State.scheduledAttempt_restores (s : State) :
    s.scheduledAttempt.pbc.restores = s.pbc.restores := by
  unfold State.scheduledAttempt; split <;> try split
  all_goals simp

/-! ### takeTurn -/

@[simp] theorem State.takeTurn_now (s : State) (l : List Nat) : (s.takeTurn l).now = s.now := by
  induction l generalizing s with
  | nil => simp [State.takeTurn]
  | cons j r ih =>
    unfold State.takeTurn; split <;> try split
    all_goals simp [ih]
@[simp] theorem State.takeTurn_cfl (s : State) (l : List Nat) : (s.takeTurn l).cfl = s.cfl := by
  induction l generalizing s with
  | nil => simp [State.takeTurn]
  | cons j r ih =>
    unfold State.takeTurn; split <;> try split
    all_goals simp [ih]
@[simp] theorem State.takeTurn_lmu (s : State) (l : List Nat) : (s.takeTurn l).lmu = s.lmu := by
  induction l generalizing s with
  | nil => simp [State.takeTurn]
  | cons j r ih =>
    unfold State.takeTurn; split <;> try split
    all_goals simp [ih]
@[simp] theorem State.takeTurn_ttx (s : State) (l : List Nat) : (s.takeTurn l).ttx = s.ttx := by
  induction l generalizing s with
  | nil => simp [State.takeTurn]
  | cons j r ih =>
    unfold State.takeTurn; split <;> try split
    all_goals simp [ih]
@[simp] theorem State.takeTurn_rbe (s : State) (l : List Nat) : (s.takeTurn l).rbe = s.rbe := by
  induction l generalizing s with
  | nil => simp [State.takeTurn]
  | cons j r ih =>
    unfold State.takeTurn; split <;> try split
    all_goals simp [ih]
@[simp] theorem State.takeTurn_rbw (s : State) (l : List Nat) : (s.takeTurn l).rbw = s.rbw := by
  induction l generalizing s with
  | nil => simp [State.takeTurn]
  | cons j r ih =>
    unfold State.takeTurn; split <;> try split
    all_goals simp [ih]
@[simp] theorem State.takeTurn_filter (s : State) (l : List Nat) : (s.takeTurn l).filter = s.filter := by
  induction l generalizing s with
  | nil => simp [State.takeTurn]
  | cons j r ih =>
    unfold State.takeTurn; split <;> try split
    all_goals simp [ih]
@[simp] theorem State.takeTurn_records (s : State) (l : List Nat) : (s.takeTurn l).records = s.records := by
  induction l generalizing s with
  | nil => simp [State.takeTurn]
  | cons j r ih =>
    unfold State.takeTurn; split <;> try split
    all_goals simp [ih]
@[simp] theorem State.takeTurn_flt (s : State) (l : List Nat) : (s.takeTurn l).flt = s.flt := by
  induction l generalizing s with
  | nil => simp [State.takeTurn]
  | cons j r ih =>
    unfold State.takeTurn; split <;> try split
    all_goals simp [ih]
@[simp] theorem State.takeTurn_tpt (s : State) (l : List Nat) : (s.takeTurn l).tpt = s.tpt := by
  induction l generalizing s with
  | nil => simp [State.takeTurn]
  | cons j r ih =>
    unfold State.takeTurn; split <;> try split
    all_goals simp [ih]
@[simp] theorem State.takeTurn_spare (s : State) (l : List Nat) : (s.takeTurn l).spare = s.spare := by
  induction l generalizing s with
  | nil => simp [State.takeTurn]
  | cons j r ih =>
    unfold State.takeTurn; split <;> try split
    all_goals simp [ih]
@[simp] theorem State.takeTurn_restarted (s : State) (l : List Nat) : (s.takeTurn l).restarted = s.restarted := by
  induction l generalizing s with
  | nil => simp [State.takeTurn]
  | cons j r ih =>
    unfold State.takeTurn; split <;> try split
    all_goals simp [ih]
@[simp] theorem State.takeTurn_spi (s : State) (l : List Nat) : (s.takeTurn l).spi = s.spi := by
  induction l generalizing s with
  | nil => simp [State.takeTurn]
  | cons j r ih =>
    unfold State.takeTurn; split <;> try split
    all_goals simp [ih]
@[simp] theorem State.takeTurn_pending (s : State) (l : List Nat) : (s.takeTurn l).pending = s.pending := by
  induction l generalizing s with
  | nil => simp [State.takeTurn]
  | cons j r ih =>
    unfold State.takeTurn; split <;> try split
    all_goals simp [ih]
@[simp] theorem State.takeTurn_cfg (s : State) (l : List Nat) : (s.takeTurn l).cfg = s.cfg := by simp [State.cfg]
@[simp] theorem State.takeTurn_pumps (s : State) (l : List Nat) :
    (s.takeTurn l).pbc.pumps = s.pbc.pumps := by
  induction l generalizing s with
  | nil => simp [State.takeTurn]
  | cons j r ih =>
    unfold State.takeTurn; split <;> try split
    all_goals simp [ih]
@[simp] theorem State.takeTurn_bypass (s : State) (l : List Nat) :
    (s.takeTurn l).pbc.bypass = s.pbc.bypass := by
  induction l generalizing s with
  | nil => simp [State.takeTurn]
  | cons j r ih =>
    unfold State.takeTurn; split <;> try split
    all_goals simp [ih]
@[simp] theorem State.takeTurn_demands (s : State) (l : List Nat) :
    (s.takeTurn l).pbc.demands = s.pbc.demands := by
  induction l generalizing s with
  | nil => simp [State.takeTurn]
  | cons j r ih =>
    unfold State.takeTurn; split <;> try split
    all_goals simp [ih]
@[simp] theorem State.takeTurn_switches (s : State) (l : List Nat) :
    (s.takeTurn l).pbc.switches = s.pbc.switches := by
  induction l generalizing s with
  | nil => simp [State.takeTurn]
  | cons j r ih =>
    unfold State.takeTurn; split <;> try split
    all_goals simp [ih]
@[simp] theorem State.takeTurn_isolations (s : State) (l : List Nat) :
    (s.takeTurn l).pbc.isolations = s.pbc.isolations := by
  induction l generalizing s with
  | nil => simp [State.takeTurn]
  | cons j r ih =>
    unfold State.takeTurn; split <;> try split
    all_goals simp [ih]
@[simp] theorem State.takeTurn_restores (s : State) (l : List Nat) :
    (s.takeTurn l).pbc.restores = s.pbc.restores := by
  induction l generalizing s with
  | nil => simp [State.takeTurn]
  | cons j r ih =>
    unfold State.takeTurn; split <;> try split
    all_goals simp [ih]

/-! ### requestRound -/

@[simp] theorem State.requestRound_now (s : State) : s.requestRound.now = s.now := by
  unfold State.requestRound; split <;> try split
  all_goals simp
@[simp] theorem State.requestRound_cfl (s : State) : s.requestRound.cfl = s.cfl := by
  unfold State.requestRound; split <;> try split
  all_goals simp
@[simp] theorem State.requestRound_lmu (s : State) : s.requestRound.lmu = s.lmu := by
  unfold State.requestRound; split <;> try split
  all_goals simp
@[simp] theorem State.requestRound_ttx (s : State) : s.requestRound.ttx = s.ttx := by
  unfold State.requestRound; split <;> try split
  all_goals simp
@[simp] theorem State.requestRound_rbe (s : State) : s.requestRound.rbe = s.rbe := by
  unfold State.requestRound; split <;> try split
  all_goals simp
@[simp] theorem State.requestRound_rbw (s : State) : s.requestRound.rbw = s.rbw := by
  unfold State.requestRound; split <;> try split
  all_goals simp
@[simp] theorem State.requestRound_filter (s : State) : s.requestRound.filter = s.filter := by
  unfold State.requestRound; split <;> try split
  all_goals simp
@[simp] theorem State.requestRound_records (s : State) : s.requestRound.records = s.records := by
  unfold State.requestRound; split <;> try split
  all_goals simp
@[simp] theorem State.requestRound_flt (s : State) : s.requestRound.flt = s.flt := by
  unfold State.requestRound; split <;> try split
  all_goals simp
@[simp] theorem State.requestRound_tpt (s : State) : s.requestRound.tpt = s.tpt := by
  unfold State.requestRound; split <;> try split
  all_goals simp
@[simp] theorem State.requestRound_spare (s : State) : s.requestRound.spare = s.spare := by
  unfold State.requestRound; split <;> try split
  all_goals simp
@[simp] theorem State.requestRound_restarted (s : State) : s.requestRound.restarted = s.restarted := by
  unfold State.requestRound; split <;> try split
  all_goals simp
@[simp] theorem State.requestRound_spi (s : State) : s.requestRound.spi = s.spi := by
  unfold State.requestRound; split <;> try split
  all_goals simp
@[simp] theorem State.requestRound_pending (s : State) : s.requestRound.pending = s.pending := by
  unfold State.requestRound; split <;> try split
  all_goals simp
@[simp] theorem State.requestRound_cfg (s : State) : s.requestRound.cfg = s.cfg := by simp [State.cfg]
@[simp] theorem State.requestRound_pumps (s : State) :
    s.requestRound.pbc.pumps = s.pbc.pumps := by
  unfold State.requestRound; split <;> try split
  all_goals simp
@[simp] theorem State.requestRound_bypass (s : State) :
    s.requestRound.pbc.bypass = s.pbc.bypass := by
  unfold State.requestRound; split <;> try split
  all_goals simp
@[simp] theorem State.requestRound_demands (s : State) :
    s.requestRound.pbc.demands = s.pbc.demands := by
  unfold State.requestRound; split <;> try split
  all_goals simp
@[simp] theorem State.requestRound_switches (s : State) :
    s.requestRound.pbc.switches = s.pbc.switches := by
  unfold State.requestRound; split <;> try split
  all_goals simp
@[simp] theorem State.requestRound_isolations (s : State) :
    s.requestRound.pbc.isolations = s.pbc.isolations := by
  unfold State.requestRound; split <;> try split
  all_goals simp
@[simp] theorem State.requestRound_restores (s : State) :
    s.requestRound.pbc.restores = s.pbc.restores := by
  unfold State.requestRound; split <;> try split
  all_goals simp

/-! ### enterProbing -/

@[simp] theorem State.enterProbing_now (s : State) (pr : Probe) : (s.enterProbing pr).now = s.now :=
  by simp [State.enterProbing]
@[simp] theorem State.enterProbing_cfl (s : State) (pr : Probe) : (s.enterProbing pr).cfl = s.cfl :=
  by simp [State.enterProbing]
@[simp] theorem State.enterProbing_lmu (s : State) (pr : Probe) : (s.enterProbing pr).lmu = s.lmu :=
  by simp [State.enterProbing]
@[simp] theorem State.enterProbing_rbe (s : State) (pr : Probe) : (s.enterProbing pr).rbe = s.rbe :=
  by simp [State.enterProbing]
@[simp] theorem State.enterProbing_rbw (s : State) (pr : Probe) : (s.enterProbing pr).rbw = s.rbw :=
  by simp [State.enterProbing]
@[simp] theorem State.enterProbing_filter (s : State) (pr : Probe) : (s.enterProbing pr).filter = s.filter :=
  by simp [State.enterProbing]
@[simp] theorem State.enterProbing_records (s : State) (pr : Probe) : (s.enterProbing pr).records = s.records :=
  by simp [State.enterProbing]
@[simp] theorem State.enterProbing_tpt (s : State) (pr : Probe) : (s.enterProbing pr).tpt = s.tpt :=
  by simp [State.enterProbing]
@[simp] theorem State.enterProbing_spare (s : State) (pr : Probe) : (s.enterProbing pr).spare = s.spare :=
  by simp [State.enterProbing]
@[simp] theorem State.enterProbing_restarted (s : State) (pr : Probe) : (s.enterProbing pr).restarted = s.restarted :=
  by simp [State.enterProbing]
@[simp] theorem State.enterProbing_spi (s : State) (pr : Probe) : (s.enterProbing pr).spi = s.spi :=
  by simp [State.enterProbing]
@[simp] theorem State.enterProbing_pending (s : State) (pr : Probe) : (s.enterProbing pr).pending = s.pending :=
  by simp [State.enterProbing]
@[simp] theorem State.enterProbing_cfg (s : State) (pr : Probe) : (s.enterProbing pr).cfg = s.cfg :=
  by simp [State.cfg]

/-! ### takeAnswer -/

@[simp] theorem State.takeAnswer_now (s : State) (r : DriveRequest) (granted : Bool) : (s.takeAnswer r granted).now = s.now :=
  by
  unfold State.takeAnswer; split <;> split <;> simp
@[simp] theorem State.takeAnswer_cfl (s : State) (r : DriveRequest) (granted : Bool) : (s.takeAnswer r granted).cfl = s.cfl :=
  by
  unfold State.takeAnswer; split <;> split <;> simp
@[simp] theorem State.takeAnswer_lmu (s : State) (r : DriveRequest) (granted : Bool) : (s.takeAnswer r granted).lmu = s.lmu :=
  by
  unfold State.takeAnswer; split <;> split <;> simp
@[simp] theorem State.takeAnswer_rbe (s : State) (r : DriveRequest) (granted : Bool) : (s.takeAnswer r granted).rbe = s.rbe :=
  by
  unfold State.takeAnswer; split <;> split <;> simp
@[simp] theorem State.takeAnswer_rbw (s : State) (r : DriveRequest) (granted : Bool) : (s.takeAnswer r granted).rbw = s.rbw :=
  by
  unfold State.takeAnswer; split <;> split <;> simp
@[simp] theorem State.takeAnswer_filter (s : State) (r : DriveRequest) (granted : Bool) : (s.takeAnswer r granted).filter = s.filter :=
  by
  unfold State.takeAnswer; split <;> split <;> simp
@[simp] theorem State.takeAnswer_records (s : State) (r : DriveRequest) (granted : Bool) : (s.takeAnswer r granted).records = s.records :=
  by
  unfold State.takeAnswer; split <;> split <;> simp
@[simp] theorem State.takeAnswer_tpt (s : State) (r : DriveRequest) (granted : Bool) : (s.takeAnswer r granted).tpt = s.tpt :=
  by
  unfold State.takeAnswer; split <;> split <;> simp
@[simp] theorem State.takeAnswer_spare (s : State) (r : DriveRequest) (granted : Bool) : (s.takeAnswer r granted).spare = s.spare :=
  by
  unfold State.takeAnswer; split <;> split <;> simp
@[simp] theorem State.takeAnswer_restarted (s : State) (r : DriveRequest) (granted : Bool) : (s.takeAnswer r granted).restarted = s.restarted :=
  by
  unfold State.takeAnswer; split <;> split <;> simp
@[simp] theorem State.takeAnswer_spi (s : State) (r : DriveRequest) (granted : Bool) : (s.takeAnswer r granted).spi = s.spi :=
  by
  unfold State.takeAnswer; split <;> split <;> simp
@[simp] theorem State.takeAnswer_pending (s : State) (r : DriveRequest) (granted : Bool) : (s.takeAnswer r granted).pending = s.pending :=
  by
  unfold State.takeAnswer; split <;> split <;> simp
@[simp] theorem State.takeAnswer_cfg (s : State) (r : DriveRequest) (granted : Bool) : (s.takeAnswer r granted).cfg = s.cfg :=
  by simp [State.cfg]
@[simp] theorem State.takeAnswer_pumps (s : State) (r : DriveRequest) (granted : Bool) :
    (s.takeAnswer r granted).pbc.pumps = s.pbc.pumps := by
  unfold State.takeAnswer; split <;> split <;> simp [State.enterProbing]
@[simp] theorem State.takeAnswer_bypass (s : State) (r : DriveRequest) (granted : Bool) :
    (s.takeAnswer r granted).pbc.bypass = s.pbc.bypass := by
  unfold State.takeAnswer; split <;> split <;> simp [State.enterProbing]
@[simp] theorem State.takeAnswer_demands (s : State) (r : DriveRequest) (granted : Bool) :
    (s.takeAnswer r granted).pbc.demands = s.pbc.demands := by
  unfold State.takeAnswer; split <;> split <;> simp [State.enterProbing]
@[simp] theorem State.takeAnswer_switches (s : State) (r : DriveRequest) (granted : Bool) :
    (s.takeAnswer r granted).pbc.switches = s.pbc.switches := by
  unfold State.takeAnswer; split <;> split <;> simp [State.enterProbing]
@[simp] theorem State.takeAnswer_isolations (s : State) (r : DriveRequest) (granted : Bool) :
    (s.takeAnswer r granted).pbc.isolations = s.pbc.isolations := by
  unfold State.takeAnswer; split <;> split <;> simp [State.enterProbing]
@[simp] theorem State.takeAnswer_driveRequests (s : State) (r : DriveRequest) (granted : Bool) :
    (s.takeAnswer r granted).pbc.driveRequests = s.pbc.driveRequests := by
  unfold State.takeAnswer; split <;> split <;> simp [State.enterProbing]

/-! ### followCaptures -/

@[simp] theorem State.followCaptures_now (s : State) (b : Bank) (l : List CaptureStep) : (s.followCaptures b l).now = s.now :=
  by
  unfold State.followCaptures
  induction l generalizing s with
  | nil => rfl
  | cons x r ih => rw [List.foldl_cons, ih]; cases x <;> simp
@[simp] theorem State.followCaptures_cfl (s : State) (b : Bank) (l : List CaptureStep) : (s.followCaptures b l).cfl = s.cfl :=
  by
  unfold State.followCaptures
  induction l generalizing s with
  | nil => rfl
  | cons x r ih => rw [List.foldl_cons, ih]; cases x <;> simp
@[simp] theorem State.followCaptures_lmu (s : State) (b : Bank) (l : List CaptureStep) : (s.followCaptures b l).lmu = s.lmu :=
  by
  unfold State.followCaptures
  induction l generalizing s with
  | nil => rfl
  | cons x r ih => rw [List.foldl_cons, ih]; cases x <;> simp
@[simp] theorem State.followCaptures_ttx (s : State) (b : Bank) (l : List CaptureStep) : (s.followCaptures b l).ttx = s.ttx :=
  by
  unfold State.followCaptures
  induction l generalizing s with
  | nil => rfl
  | cons x r ih => rw [List.foldl_cons, ih]; cases x <;> simp
@[simp] theorem State.followCaptures_rbe (s : State) (b : Bank) (l : List CaptureStep) : (s.followCaptures b l).rbe = s.rbe :=
  by
  unfold State.followCaptures
  induction l generalizing s with
  | nil => rfl
  | cons x r ih => rw [List.foldl_cons, ih]; cases x <;> simp
@[simp] theorem State.followCaptures_rbw (s : State) (b : Bank) (l : List CaptureStep) : (s.followCaptures b l).rbw = s.rbw :=
  by
  unfold State.followCaptures
  induction l generalizing s with
  | nil => rfl
  | cons x r ih => rw [List.foldl_cons, ih]; cases x <;> simp
@[simp] theorem State.followCaptures_filter (s : State) (b : Bank) (l : List CaptureStep) : (s.followCaptures b l).filter = s.filter :=
  by
  unfold State.followCaptures
  induction l generalizing s with
  | nil => rfl
  | cons x r ih => rw [List.foldl_cons, ih]; cases x <;> simp
@[simp] theorem State.followCaptures_flt (s : State) (b : Bank) (l : List CaptureStep) : (s.followCaptures b l).flt = s.flt :=
  by
  unfold State.followCaptures
  induction l generalizing s with
  | nil => rfl
  | cons x r ih => rw [List.foldl_cons, ih]; cases x <;> simp
@[simp] theorem State.followCaptures_pru (s : State) (b : Bank) (l : List CaptureStep) : (s.followCaptures b l).pru = s.pru :=
  by
  unfold State.followCaptures
  induction l generalizing s with
  | nil => rfl
  | cons x r ih => rw [List.foldl_cons, ih]; cases x <;> simp
@[simp] theorem State.followCaptures_tpt (s : State) (b : Bank) (l : List CaptureStep) : (s.followCaptures b l).tpt = s.tpt :=
  by
  unfold State.followCaptures
  induction l generalizing s with
  | nil => rfl
  | cons x r ih => rw [List.foldl_cons, ih]; cases x <;> simp
@[simp] theorem State.followCaptures_spare (s : State) (b : Bank) (l : List CaptureStep) : (s.followCaptures b l).spare = s.spare :=
  by
  unfold State.followCaptures
  induction l generalizing s with
  | nil => rfl
  | cons x r ih => rw [List.foldl_cons, ih]; cases x <;> simp
@[simp] theorem State.followCaptures_restarted (s : State) (b : Bank) (l : List CaptureStep) : (s.followCaptures b l).restarted = s.restarted :=
  by
  unfold State.followCaptures
  induction l generalizing s with
  | nil => rfl
  | cons x r ih => rw [List.foldl_cons, ih]; cases x <;> simp
@[simp] theorem State.followCaptures_spi (s : State) (b : Bank) (l : List CaptureStep) : (s.followCaptures b l).spi = s.spi :=
  by
  unfold State.followCaptures
  induction l generalizing s with
  | nil => rfl
  | cons x r ih => rw [List.foldl_cons, ih]; cases x <;> simp
@[simp] theorem State.followCaptures_pending (s : State) (b : Bank) (l : List CaptureStep) : (s.followCaptures b l).pending = s.pending :=
  by
  unfold State.followCaptures
  induction l generalizing s with
  | nil => rfl
  | cons x r ih => rw [List.foldl_cons, ih]; cases x <;> simp
@[simp] theorem State.followCaptures_cfg (s : State) (b : Bank) (l : List CaptureStep) : (s.followCaptures b l).cfg = s.cfg :=
  by simp [State.cfg]

/-! ### presenceChange -/

@[simp] theorem State.presenceChange_now (s : State) (b : Bank) (q : Nat) (old new : Presence) : (s.presenceChange b q old new).now = s.now :=
  by simp [State.presenceChange]
@[simp] theorem State.presenceChange_cfl (s : State) (b : Bank) (q : Nat) (old new : Presence) : (s.presenceChange b q old new).cfl = s.cfl :=
  by simp [State.presenceChange]
@[simp] theorem State.presenceChange_lmu (s : State) (b : Bank) (q : Nat) (old new : Presence) : (s.presenceChange b q old new).lmu = s.lmu :=
  by simp [State.presenceChange]
@[simp] theorem State.presenceChange_ttx (s : State) (b : Bank) (q : Nat) (old new : Presence) : (s.presenceChange b q old new).ttx = s.ttx :=
  by simp [State.presenceChange]
@[simp] theorem State.presenceChange_filter (s : State) (b : Bank) (q : Nat) (old new : Presence) : (s.presenceChange b q old new).filter = s.filter :=
  by simp [State.presenceChange]
@[simp] theorem State.presenceChange_flt (s : State) (b : Bank) (q : Nat) (old new : Presence) : (s.presenceChange b q old new).flt = s.flt :=
  by simp [State.presenceChange]
@[simp] theorem State.presenceChange_pru (s : State) (b : Bank) (q : Nat) (old new : Presence) : (s.presenceChange b q old new).pru = s.pru :=
  by simp [State.presenceChange]
@[simp] theorem State.presenceChange_spare (s : State) (b : Bank) (q : Nat) (old new : Presence) : (s.presenceChange b q old new).spare = s.spare :=
  by simp [State.presenceChange]
@[simp] theorem State.presenceChange_restarted (s : State) (b : Bank) (q : Nat) (old new : Presence) : (s.presenceChange b q old new).restarted = s.restarted :=
  by simp [State.presenceChange]
@[simp] theorem State.presenceChange_spi (s : State) (b : Bank) (q : Nat) (old new : Presence) : (s.presenceChange b q old new).spi = s.spi :=
  by simp [State.presenceChange]
@[simp] theorem State.presenceChange_pending (s : State) (b : Bank) (q : Nat) (old new : Presence) : (s.presenceChange b q old new).pending = s.pending :=
  by simp [State.presenceChange]
@[simp] theorem State.presenceChange_cfg (s : State) (b : Bank) (q : Nat) (old new : Presence) : (s.presenceChange b q old new).cfg = s.cfg :=
  by simp [State.cfg]

/-! ### judge -/

@[simp] theorem State.judge_now (s : State) : s.judge.now = s.now := by
  unfold State.judge; simp only []; split <;> simp
@[simp] theorem State.judge_cfl (s : State) : s.judge.cfl = s.cfl := by
  unfold State.judge; simp only []; split <;> simp
@[simp] theorem State.judge_lmu (s : State) : s.judge.lmu = s.lmu := by
  unfold State.judge; simp only []; split <;> simp
@[simp] theorem State.judge_rbe (s : State) : s.judge.rbe = s.rbe := by
  unfold State.judge; simp only []; split <;> simp
@[simp] theorem State.judge_rbw (s : State) : s.judge.rbw = s.rbw := by
  unfold State.judge; simp only []; split <;> simp
@[simp] theorem State.judge_filter (s : State) : s.judge.filter = s.filter := by
  unfold State.judge; simp only []; split <;> simp
@[simp] theorem State.judge_records (s : State) : s.judge.records = s.records := by
  unfold State.judge; simp only []; split <;> simp
@[simp] theorem State.judge_tpt (s : State) : s.judge.tpt = s.tpt := by
  unfold State.judge; simp only []; split <;> simp
@[simp] theorem State.judge_spare (s : State) : s.judge.spare = s.spare := by
  unfold State.judge; simp only []; split <;> simp
@[simp] theorem State.judge_restarted (s : State) : s.judge.restarted = s.restarted := by
  unfold State.judge; simp only []; split <;> simp
@[simp] theorem State.judge_spi (s : State) : s.judge.spi = s.spi := by
  unfold State.judge; simp only []; split <;> simp
@[simp] theorem State.judge_pending (s : State) : s.judge.pending = s.pending := by
  unfold State.judge; simp only []; split <;> simp
@[simp] theorem State.judge_cfg (s : State) : s.judge.cfg = s.cfg := by simp [State.cfg]

/-! ### execute -/

@[simp] theorem State.execute_now (s : State) (k : DirectiveKind) : (s.execute k).now = s.now := by
  cases k <;> simp [State.execute]
@[simp] theorem State.execute_cfl (s : State) (k : DirectiveKind) : (s.execute k).cfl = s.cfl := by
  cases k <;> simp [State.execute]
@[simp] theorem State.execute_lmu (s : State) (k : DirectiveKind) : (s.execute k).lmu = s.lmu := by
  cases k <;> simp [State.execute]
@[simp] theorem State.execute_filter (s : State) (k : DirectiveKind) : (s.execute k).filter = s.filter := by
  cases k <;> simp [State.execute]
@[simp] theorem State.execute_tpt (s : State) (k : DirectiveKind) : (s.execute k).tpt = s.tpt := by
  cases k <;> simp [State.execute]
@[simp] theorem State.execute_spare (s : State) (k : DirectiveKind) : (s.execute k).spare = s.spare := by
  cases k <;> simp [State.execute]
@[simp] theorem State.execute_spi (s : State) (k : DirectiveKind) : (s.execute k).spi = s.spi := by
  cases k <;> simp [State.execute]
@[simp] theorem State.execute_pending (s : State) (k : DirectiveKind) : (s.execute k).pending = s.pending := by
  cases k <;> simp [State.execute]
@[simp] theorem State.execute_cfg (s : State) (k : DirectiveKind) : (s.execute k).cfg = s.cfg := by simp [State.cfg]

/-! ### filterDirective -/

@[simp] theorem State.filterDirective_now (s : State) (origin : Nat) (d : Directive) : (s.filterDirective origin d).now = s.now :=
  by
  unfold State.filterDirective; split <;> (try split) <;> (try split) <;> simp
@[simp] theorem State.filterDirective_cfl (s : State) (origin : Nat) (d : Directive) : (s.filterDirective origin d).cfl = s.cfl :=
  by
  unfold State.filterDirective; split <;> (try split) <;> (try split) <;> simp
@[simp] theorem State.filterDirective_lmu (s : State) (origin : Nat) (d : Directive) : (s.filterDirective origin d).lmu = s.lmu :=
  by
  unfold State.filterDirective; split <;> (try split) <;> (try split) <;> simp
@[simp] theorem State.filterDirective_tpt (s : State) (origin : Nat) (d : Directive) : (s.filterDirective origin d).tpt = s.tpt :=
  by
  unfold State.filterDirective; split <;> (try split) <;> (try split) <;> simp
@[simp] theorem State.filterDirective_spare (s : State) (origin : Nat) (d : Directive) : (s.filterDirective origin d).spare = s.spare :=
  by
  unfold State.filterDirective; split <;> (try split) <;> (try split) <;> simp
@[simp] theorem State.filterDirective_spi (s : State) (origin : Nat) (d : Directive) : (s.filterDirective origin d).spi = s.spi :=
  by
  unfold State.filterDirective; split <;> (try split) <;> (try split) <;> simp
@[simp] theorem State.filterDirective_pending (s : State) (origin : Nat) (d : Directive) : (s.filterDirective origin d).pending = s.pending :=
  by
  unfold State.filterDirective; split <;> (try split) <;> (try split) <;> simp
@[simp] theorem State.filterDirective_cfg (s : State) (origin : Nat) (d : Directive) : (s.filterDirective origin d).cfg = s.cfg :=
  by simp [State.cfg]

/-! ### deliver -/

@[simp] theorem State.deliver_now (s : State) (f : Frame) : (s.deliver f).now = s.now := by
  unfold State.deliver; split <;> simp
@[simp] theorem State.deliver_cfl (s : State) (f : Frame) : (s.deliver f).cfl = s.cfl := by
  unfold State.deliver; split <;> simp
@[simp] theorem State.deliver_lmu (s : State) (f : Frame) : (s.deliver f).lmu = s.lmu := by
  unfold State.deliver; split <;> simp
@[simp] theorem State.deliver_spare (s : State) (f : Frame) : (s.deliver f).spare = s.spare := by
  unfold State.deliver; split <;> simp
@[simp] theorem State.deliver_spi (s : State) (f : Frame) : (s.deliver f).spi = s.spi := by
  unfold State.deliver; split <;> simp
@[simp] theorem State.deliver_pending (s : State) (f : Frame) : (s.deliver f).pending = s.pending := by
  unfold State.deliver; split <;> simp
@[simp] theorem State.deliver_cfg (s : State) (f : Frame) : (s.deliver f).cfg = s.cfg := by simp [State.cfg]

/-! ### takeSecond and takeCut -/

@[simp] theorem State.takeSecond_now (s : State) (b : Bank) (t : Nat) (stream : List Bool) (f : Frame) (together : Bool) :
    (s.takeSecond b t stream f together).now = s.now := by
  unfold State.takeSecond; cases together <;> simp
@[simp] theorem State.takeCut_now (s : State) (b : Bank) (t q : Nat) (stream : List Bool) :
    (s.takeCut b t q stream).now = s.now := by
  unfold State.takeCut; split <;> try split
  all_goals simp
@[simp] theorem State.takeSecond_cfl (s : State) (b : Bank) (t : Nat) (stream : List Bool) (f : Frame) (together : Bool) :
    (s.takeSecond b t stream f together).cfl = s.cfl := by
  unfold State.takeSecond; cases together <;> simp
@[simp] theorem State.takeCut_cfl (s : State) (b : Bank) (t q : Nat) (stream : List Bool) :
    (s.takeCut b t q stream).cfl = s.cfl := by
  unfold State.takeCut; split <;> try split
  all_goals simp
@[simp] theorem State.takeSecond_lmu (s : State) (b : Bank) (t : Nat) (stream : List Bool) (f : Frame) (together : Bool) :
    (s.takeSecond b t stream f together).lmu = s.lmu := by
  unfold State.takeSecond; cases together <;> simp
@[simp] theorem State.takeCut_lmu (s : State) (b : Bank) (t q : Nat) (stream : List Bool) :
    (s.takeCut b t q stream).lmu = s.lmu := by
  unfold State.takeCut; split <;> try split
  all_goals simp
@[simp] theorem State.takeSecond_spi (s : State) (b : Bank) (t : Nat) (stream : List Bool) (f : Frame) (together : Bool) :
    (s.takeSecond b t stream f together).spi = s.spi := by
  unfold State.takeSecond; cases together <;> simp
@[simp] theorem State.takeCut_spi (s : State) (b : Bank) (t q : Nat) (stream : List Bool) :
    (s.takeCut b t q stream).spi = s.spi := by
  unfold State.takeCut; split <;> try split
  all_goals simp
@[simp] theorem State.takeSecond_pending (s : State) (b : Bank) (t : Nat) (stream : List Bool) (f : Frame) (together : Bool) :
    (s.takeSecond b t stream f together).pending = s.pending := by
  unfold State.takeSecond; cases together <;> simp
@[simp] theorem State.takeCut_pending (s : State) (b : Bank) (t q : Nat) (stream : List Bool) :
    (s.takeCut b t q stream).pending = s.pending := by
  unfold State.takeCut; split <;> try split
  all_goals simp
@[simp] theorem State.takeCut_cfg (s : State) (b : Bank) (t q : Nat) (stream : List Bool) :
    (s.takeCut b t q stream).cfg = s.cfg := by simp [State.cfg]

/-- What becomes of a frame that a warm restart has cut: nothing, unless it is accepted and carries a RESTART that the filter
passes. -/
theorem State.takeCut_cases (s : State) (b : Bank) (t q : Nat) (stream : List Bool) :
    s.takeCut b t q stream = s ∨
      ∃ f d, acceptFrame q stream = some f ∧ f.directive = some d ∧ d.kind = .restart ∧ s.passes f.origin d = true ∧
        s.takeCut b t q stream = s.takeSecond b t stream f (Config.restartsTogether s.spare) := by
  unfold State.takeCut
  split
  case h_2 => exact .inl rfl
  case h_1 f hf =>
    split
    case isFalse => exact .inl rfl
    case isTrue hr =>
      unfold State.restarts at hr
      split at hr
      case h_2 => cases hr
      case h_1 d hd =>
        simp only [Bool.and_eq_true, beq_iff_eq] at hr
        exact .inr ⟨f, d, hf, hd, hr.1, hr.2, rfl⟩

/-- A directive that the filter passes is recorded, and then executed (R62, R64). -/
theorem State.filterDirective_of_passes {s : State} {origin : Nat} {d : Directive} (h : s.passes origin d = true) :
    ∃ f, s.filterDirective origin d = (s.setFilter f).execute d.kind := by
  unfold State.passes at h
  unfold State.filterDirective
  split at h
  · exact ⟨_, by simp_all; rfl⟩
  · split at h
    · exact ⟨_, by simp_all; rfl⟩
    · cases h

/-! ### deliverClass -/

@[simp] theorem State.deliverClass_now (s : State) (ev : ClassChange) : (s.deliverClass ev).now = s.now := by
  unfold State.deliverClass; simp only []; split <;> split <;> rfl
@[simp] theorem State.deliverClass_cfl (s : State) (ev : ClassChange) : (s.deliverClass ev).cfl = s.cfl := by
  unfold State.deliverClass; simp only []; split <;> split <;> rfl
@[simp] theorem State.deliverClass_lmu (s : State) (ev : ClassChange) : (s.deliverClass ev).lmu = s.lmu := by
  unfold State.deliverClass; simp only []; split <;> split <;> rfl
@[simp] theorem State.deliverClass_ttx (s : State) (ev : ClassChange) : (s.deliverClass ev).ttx = s.ttx := by
  unfold State.deliverClass; simp only []; split <;> split <;> rfl
@[simp] theorem State.deliverClass_filter (s : State) (ev : ClassChange) : (s.deliverClass ev).filter = s.filter := by
  unfold State.deliverClass; simp only []; split <;> split <;> rfl
@[simp] theorem State.deliverClass_records (s : State) (ev : ClassChange) : (s.deliverClass ev).records = s.records :=
  by
  unfold State.deliverClass; simp only []; split <;> split <;> rfl
@[simp] theorem State.deliverClass_pbc (s : State) (ev : ClassChange) : (s.deliverClass ev).pbc = s.pbc := by
  unfold State.deliverClass; simp only []; split <;> split <;> rfl
@[simp] theorem State.deliverClass_pru (s : State) (ev : ClassChange) : (s.deliverClass ev).pru = s.pru := by
  unfold State.deliverClass; simp only []; split <;> split <;> rfl
@[simp] theorem State.deliverClass_tpt (s : State) (ev : ClassChange) : (s.deliverClass ev).tpt = s.tpt := by
  unfold State.deliverClass; simp only []; split <;> split <;> rfl
@[simp] theorem State.deliverClass_spare (s : State) (ev : ClassChange) : (s.deliverClass ev).spare = s.spare := by
  unfold State.deliverClass; simp only []; split <;> split <;> rfl
@[simp] theorem State.deliverClass_restarted (s : State) (ev : ClassChange) : (s.deliverClass ev).restarted = s.restarted := by
  unfold State.deliverClass; simp only []; split <;> split <;> rfl
@[simp] theorem State.deliverClass_spi (s : State) (ev : ClassChange) : (s.deliverClass ev).spi = s.spi := by
  unfold State.deliverClass; simp only []; split <;> split <;> rfl
@[simp] theorem State.deliverClass_pending (s : State) (ev : ClassChange) : (s.deliverClass ev).pending = s.pending :=
  by
  unfold State.deliverClass; simp only []; split <;> split <;> rfl
@[simp] theorem State.deliverClass_cfg (s : State) (ev : ClassChange) : (s.deliverClass ev).cfg = s.cfg :=
  by simp [State.cfg]

/-! ### a whole sample set's class changes -/

@[simp] theorem State.deliverClasses_now (s : State) (l : List ClassChange) :
    (l.foldl State.deliverClass s).now = s.now := by
  induction l generalizing s with
  | nil => rfl
  | cons x r ih => rw [List.foldl_cons, ih, State.deliverClass_now]
@[simp] theorem State.deliverClasses_cfl (s : State) (l : List ClassChange) :
    (l.foldl State.deliverClass s).cfl = s.cfl := by
  induction l generalizing s with
  | nil => rfl
  | cons x r ih => rw [List.foldl_cons, ih, State.deliverClass_cfl]
@[simp] theorem State.deliverClasses_lmu (s : State) (l : List ClassChange) :
    (l.foldl State.deliverClass s).lmu = s.lmu := by
  induction l generalizing s with
  | nil => rfl
  | cons x r ih => rw [List.foldl_cons, ih, State.deliverClass_lmu]
@[simp] theorem State.deliverClasses_ttx (s : State) (l : List ClassChange) :
    (l.foldl State.deliverClass s).ttx = s.ttx := by
  induction l generalizing s with
  | nil => rfl
  | cons x r ih => rw [List.foldl_cons, ih, State.deliverClass_ttx]
@[simp] theorem State.deliverClasses_filter (s : State) (l : List ClassChange) :
    (l.foldl State.deliverClass s).filter = s.filter := by
  induction l generalizing s with
  | nil => rfl
  | cons x r ih => rw [List.foldl_cons, ih, State.deliverClass_filter]
@[simp] theorem State.deliverClasses_records (s : State) (l : List ClassChange) :
    (l.foldl State.deliverClass s).records = s.records := by
  induction l generalizing s with
  | nil => rfl
  | cons x r ih => rw [List.foldl_cons, ih, State.deliverClass_records]
@[simp] theorem State.deliverClasses_pbc (s : State) (l : List ClassChange) :
    (l.foldl State.deliverClass s).pbc = s.pbc := by
  induction l generalizing s with
  | nil => rfl
  | cons x r ih => rw [List.foldl_cons, ih, State.deliverClass_pbc]
@[simp] theorem State.deliverClasses_pru (s : State) (l : List ClassChange) :
    (l.foldl State.deliverClass s).pru = s.pru := by
  induction l generalizing s with
  | nil => rfl
  | cons x r ih => rw [List.foldl_cons, ih, State.deliverClass_pru]
@[simp] theorem State.deliverClasses_tpt (s : State) (l : List ClassChange) :
    (l.foldl State.deliverClass s).tpt = s.tpt := by
  induction l generalizing s with
  | nil => rfl
  | cons x r ih => rw [List.foldl_cons, ih, State.deliverClass_tpt]
@[simp] theorem State.deliverClasses_spare (s : State) (l : List ClassChange) :
    (l.foldl State.deliverClass s).spare = s.spare := by
  induction l generalizing s with
  | nil => rfl
  | cons x r ih => rw [List.foldl_cons, ih, State.deliverClass_spare]
@[simp] theorem State.deliverClasses_restarted (s : State) (l : List ClassChange) :
    (l.foldl State.deliverClass s).restarted = s.restarted := by
  induction l generalizing s with
  | nil => rfl
  | cons x r ih => rw [List.foldl_cons, ih, State.deliverClass_restarted]
@[simp] theorem State.deliverClasses_spi (s : State) (l : List ClassChange) :
    (l.foldl State.deliverClass s).spi = s.spi := by
  induction l generalizing s with
  | nil => rfl
  | cons x r ih => rw [List.foldl_cons, ih, State.deliverClass_spi]
@[simp] theorem State.deliverClasses_pending (s : State) (l : List ClassChange) :
    (l.foldl State.deliverClass s).pending = s.pending := by
  induction l generalizing s with
  | nil => rfl
  | cons x r ih => rw [List.foldl_cons, ih, State.deliverClass_pending]
@[simp] theorem State.deliverClasses_cfg (s : State) (l : List ClassChange) :
    (l.foldl State.deliverClass s).cfg = s.cfg := by
  induction l generalizing s with
  | nil => rfl
  | cons x r ih => rw [List.foldl_cons, ih, State.deliverClass_cfg]

end Sys2Proof.Machine
end

