-- ==== Sys2Proof/Laws/Streams.lean ====
section
/-! SUPPORT. The streams of bits: what the hunt for a sync finds (R49), what a tracker does with it (R51), the levels of the
two-wire port (R164), the bits of an SPI transaction (R188), and what the SPI slave does at its pins (R175). -/

namespace Sys2Proof.Machine

/-! ## The hunt for a sync -/

@[simp] theorem syncBits_length : syncBits.length = 16 := by decide

theorem syncAhead_iff (stream : List Bool) : syncAhead stream = true ↔ stream.take 16 = syncBits := by
  simp [syncAhead]

/-- All that the hunt can answer: the bits after the first run of 16 that is the pattern. -/
theorem huntSync_some (stream after : List Bool) :
    huntSync stream = some after ↔
      ∃ n, (stream.drop n).take 16 = syncBits ∧ (∀ m < n, (stream.drop m).take 16 ≠ syncBits) ∧
        after = stream.drop (n + 16) := by
  induction stream with
  | nil =>
    constructor
    · intro h; cases h
    · rintro ⟨n, h, -, -⟩
      have := congrArg List.length h
      simp at this
  | cons b rest ih =>
    rw [huntSync]
    by_cases hs : syncAhead (b :: rest) = true
    · rw [if_pos hs]
      constructor
      · intro h
        exact ⟨0, (syncAhead_iff _).mp hs, fun m hm => absurd hm (Nat.not_lt_zero m), (Option.some.inj h).symm⟩
      · rintro ⟨n, -, hn, rfl⟩
        cases n with
        | zero => rfl
        | succ n => exact absurd ((syncAhead_iff _).mp hs) (hn 0 (Nat.succ_pos n))
    · rw [if_neg hs, ih]
      constructor
      · rintro ⟨n, h, hn, rfl⟩
        refine ⟨n + 1, h, fun m hm => ?_, by rw [Nat.add_right_comm]; rfl⟩
        cases m with
        | zero => exact fun h0 => hs ((syncAhead_iff _).mpr h0)
        | succ m => exact hn m (Nat.lt_of_succ_lt_succ hm)
      · rintro ⟨n, h, hn, rfl⟩
        cases n with
        | zero => exact absurd ((syncAhead_iff _).mpr h) hs
        | succ n =>
          exact ⟨n, h, fun m hm => hn (m + 1) (Nat.succ_lt_succ hm), by rw [Nat.add_right_comm]; rfl⟩

/-- A hunt that finds nothing has passed over every run. -/
theorem huntSync_none (stream : List Bool) :
    huntSync stream = none ↔ ∀ n, (stream.drop n).take 16 ≠ syncBits := by
  induction stream with
  | nil =>
    refine ⟨fun _ n h => ?_, fun _ => rfl⟩
    have := congrArg List.length h
    simp at this
  | cons b rest ih =>
    rw [huntSync]
    by_cases hs : syncAhead (b :: rest) = true
    · rw [if_pos hs]
      exact ⟨fun h => (nomatch h), fun h => absurd ((syncAhead_iff _).mp hs) (h 0)⟩
    · rw [if_neg hs, ih]
      refine ⟨fun h n => ?_, fun h n => h (n + 1)⟩
      cases n with
      | zero => exact fun h0 => hs ((syncAhead_iff _).mpr h0)
      | succ n => exact h n

/-- The hunt that resumes after a failed frame begins with the second bit of that frame's sync. -/
theorem resumeHunt_eq (stream : List Bool) : resumeHunt stream = (syncBits ++ stream).drop 1 := by
  simp [resumeHunt, syncBits, bitsOf]

/-! ## Trackers -/

@[simp] theorem Tracker.hunt_reception (l : List Bool) (t : Tracker) : (t.hunt l).reception = .hunting := rfl
@[simp] theorem Tracker.hunt_ahead (l : List Bool) (t : Tracker) : (t.hunt l).ahead = l := rfl
@[simp] theorem Tracker.hunt_pos (l : List Bool) (t : Tracker) : (t.hunt l).pos = t.pos := rfl
@[simp] theorem Tracker.hunt_kind (l : List Bool) (t : Tracker) : (t.hunt l).kind = t.kind := rfl
@[simp] theorem Tracker.hunt_state (l : List Bool) (t : Tracker) : (t.hunt l).state = t.state := rfl
@[simp] theorem Tracker.foundSync_pos (d : Moment) (l : List Bool) (t : Tracker) : (t.foundSync d l).pos = t.pos := rfl
@[simp] theorem Tracker.foundSync_kind (d : Moment) (l : List Bool) (t : Tracker) : (t.foundSync d l).kind = t.kind := rfl
@[simp] theorem Tracker.foundSync_state (d : Moment) (l : List Bool) (t : Tracker) :
    (t.foundSync d l).state = t.state := rfl
@[simp] theorem Tracker.lock_pos (d : Moment) (l : List Bool) (t : Tracker) : (t.lock d l).pos = t.pos := rfl
@[simp] theorem Tracker.lock_kind (d : Moment) (l : List Bool) (t : Tracker) : (t.lock d l).kind = t.kind := rfl
@[simp] theorem Tracker.lock_state (d : Moment) (l : List Bool) (t : Tracker) : (t.lock d l).state = .locked := rfl
@[simp] theorem Tracker.expire_pos (t : Tracker) : t.expire.pos = t.pos := rfl
@[simp] theorem Tracker.expire_kind (t : Tracker) : t.expire.kind = t.kind := rfl
@[simp] theorem Tracker.expire_state (t : Tracker) : t.expire.state = .acquiring := rfl

@[simp] theorem Tracker.failLocked_pos (l : List Bool) (t : Tracker) : (t.failLocked l).pos = t.pos := by
  unfold Tracker.failLocked Tracker.acquire; split <;> rfl
@[simp] theorem Tracker.failLocked_kind (l : List Bool) (t : Tracker) : (t.failLocked l).kind = t.kind := by
  unfold Tracker.failLocked Tracker.acquire; split <;> rfl
@[simp] theorem Tracker.failFrame_pos (l : List Bool) (t : Tracker) : (t.failFrame l).pos = t.pos := by
  unfold Tracker.failFrame; split <;> simp
@[simp] theorem Tracker.failFrame_kind (l : List Bool) (t : Tracker) : (t.failFrame l).kind = t.kind := by
  unfold Tracker.failFrame; split <;> simp

/-! ## The two-wire port -/

/-- MSDA stands still while MSCL is high, between any two moments that follow each other. -/
def Wires.steady : List Wires → Bool
  | x :: y :: rest => (x.mscl == .low || y.mscl == .low || x.msda == y.msda) && Wires.steady (y :: rest)
  | _ => true

/-- The symbols other than the three conditions and the release of the bus. -/
def BusSymbol.isBit : BusSymbol → Bool
  | .start | .repeatedStart | .stop | .released => false
  | _ => true

/-- Two stretches of steady levels that meet while MSCL is low are steady together. -/
theorem Wires.steady_append (xs ys : List Wires) (hx : Wires.steady xs = true) (hy : Wires.steady ys = true)
    (hl : ∀ y, ys.head? = some y → y.mscl = .low) : Wires.steady (xs ++ ys) = true := by
  induction xs with
  | nil => exact hy
  | cons x xs ih =>
    cases xs with
    | nil =>
      cases ys with
      | nil => rfl
      | cons y ys => simp [Wires.steady, hl y rfl, hy]
    | cons x' xs =>
      simp only [Wires.steady, Bool.and_eq_true] at hx
      have := ih hx.2
      simp only [List.cons_append] at this ⊢
      simp [Wires.steady, hx.1, this]

theorem clocked_flatMap_steady (bits : List Bool) :
    Wires.steady (bits.flatMap fun b => clocked (levelOf b)) = true := by
  induction bits with
  | nil => rfl
  | cons b bits ih =>
    rw [List.flatMap_cons]
    refine Wires.steady_append _ _ (by cases b <;> rfl) ih fun y hy => ?_
    cases bits with
    | nil => cases hy
    | cons c bits => simp only [List.flatMap_cons, clocked, List.cons_append, List.head?_cons, Option.some.injEq] at hy; rw [← hy]

/-- R164: but for a start, a repeated start and a stop, MSDA changes only while MSCL is low. -/
theorem BusSymbol.wires_steady (x : BusSymbol) (h : x.isBit = true) : Wires.steady x.wires = true := by
  cases x
  case sent b => exact clocked_flatMap_steady _
  case received b => exact clocked_flatMap_steady _
  all_goals first | rfl | cases h

/-! ## The bits of an SPI transaction (R188) -/

theorem bytesClocked_bits (b : Byte) (rest : List Bool) : bytesClocked (bitsOf 8 b.toNat ++ rest) = b :: bytesClocked rest := by
  have h : ∀ b : Byte, bytesClocked (bitsOf 8 b.toNat) = [b] := by decide +kernel
  have hb := h b
  simp only [bitsOf, List.range, List.range.loop, List.map_cons, List.map_nil, List.cons_append, List.nil_append,
    bytesClocked] at hb ⊢
  exact congrArg (· :: bytesClocked rest) (List.cons.inj hb).1

/-- The bytes of whole bytes sent are those bytes, and a byte cut short is not received. -/
theorem bytesClocked_sent (sent : List Byte) (cut : List Bool) (h : cut.length < 8) :
    bytesClocked ((sent.flatMap fun b => bitsOf 8 b.toNat) ++ cut) = sent := by
  induction sent with
  | nil =>
    unfold bytesClocked
    split
    · simp_all; omega
    · rfl
  | cons b rest ih => simp only [List.flatMap_cons, List.append_assoc, bytesClocked_bits, ih]

/-! ## The SPI slave at its pins (R175) -/

@[simp] theorem Spi.see_pins (active : Bool) (p : SpiPins) (x : Spi) : (x.see active p).pins = p := rfl
@[simp] theorem Spi.see_waiting (active : Bool) (p : SpiPins) (x : Spi) : (x.see active p).waiting = x.waiting := rfl
@[simp] theorem Spi.see_inactive (p : SpiPins) (x : Spi) : (x.see false p).bits = none := rfl
@[simp] theorem Spi.see_active (p : SpiPins) (x : Spi) : (x.see true p).bits = x.follow p := rfl

/-- One clock of mode 0, low and then high with data `d`, adds the level of SDI to the bits of the transaction. -/
theorem Spi.see_clock (x : Spi) (d : Level) (bits : List Bool) (hc : x.pins.csn = .low) (hb : x.bits = some bits) :
    (((x.see true ⟨.low, d, .low⟩).see true ⟨.high, d, .low⟩)).bits = some (bits ++ [d == .high]) := by
  simp [Spi.follow, SpiPins.rises, hc, hb]

/-- All that new levels at the pins can do: they complete no command, or they complete one, which is taken. -/
theorem State.seePins_eq (s : State) (p : SpiPins) :
    (∃ c, s.spi.command = none ∧ (s.spi.see s.portActive p).command = some c ∧
      s.seePins p = exec c { s with spi := s.spi.see s.portActive p }) ∨
    ((s.spi.command ≠ none ∨ (s.spi.see s.portActive p).command = none) ∧
      s.seePins p = .next { s with spi := s.spi.see s.portActive p }) := by
  unfold State.seePins
  cases h : s.spi.command with
  | some d => exact .inr ⟨.inl (by simp), rfl⟩
  | none =>
    cases h' : (s.spi.see s.portActive p).command with
    | some c => exact .inl ⟨c, rfl, rfl, by simp only [h']⟩
    | none => exact .inr ⟨.inr rfl, by simp only [h']⟩

end Sys2Proof.Machine
end

