-- ==== Sys2Proof/Laws/Frames.lean ====
section
/-! SUPPORT. Which blocks of the state each command can change at all: the coarse frame of every command, in one
table; and what a step can be. -/

namespace Sys2Proof.Machine

/-- The parts of the state, those marked `true` and the SPI pins, that are the same in `t` as in `s`; with the filter goes the
note of the latest warm restart. -/
structure Keeps (s t : State) (cfl lmu ttx banks filter records flt pbc pru tpt : Bool) : Prop where
  restarted : filter = true → t.restarted = s.restarted
  cfl : cfl = true → t.cfl = s.cfl
  lmu : lmu = true → t.lmu = s.lmu
  ttx : ttx = true → t.ttx = s.ttx
  rbe : banks = true → t.rbe = s.rbe
  rbw : banks = true → t.rbw = s.rbw
  filter : filter = true → t.filter = s.filter
  records : records = true → t.records = s.records
  flt : flt = true → t.flt = s.flt
  pbc : pbc = true → t.pbc = s.pbc
  pru : pru = true → t.pru = s.pru
  tpt : tpt = true → t.tpt = s.tpt
  spi : t.spi = s.spi

/-- The table: `banks` stands for both receive banks.  COLD_START touches every block. -/
def touch (c : Instr) (s t : State) : Prop :=
  match c with
  | .coldStart => True
  | .declareValid _ => Keeps s t false false false false true false false false false true
  | .loadBegin _ | .stationClockTick | .readingHeader _ | .readingBody _ | .wordTransferTimeout =>
    Keeps s t false true true true true true true true true true
  | .sampleSet _ => Keeps s t true false false false true true false true true true
  | .confirmationTimerExpiry _ | .syncFound .. | .syncMissing .. | .syncTimerExpiry .. =>
    Keeps s t true true true false true true true true true true
  | .dwellComplete .. => Keeps s t true true true false true false true false true false
  | .frameChecked .. => Keeps s t true true false false false false false false false false
  | .recordAgeTick _ => Keeps s t true true true true true false false false true true
  | .frameSnapshot => Keeps s t true true false true true true true true true true
  | .judgementEpoch => Keeps s t true true false true true true false false false true
  | .probeEpochRetry | .roundEpochRetry | .probeIntervalExpiry | .gapTimerExpiry =>
    Keeps s t true true true true true true true false false true
  | .ampIsolationRequest | .pumpIsolationRequest | .probeDriveRequest | .probeWindowExpiry =>
    Keeps s t true true false true true true false false false true
  | .stepTimerExpiry _ | .restoreRequest => Keeps s t true true true true true true true false true true
  | _ => Keeps s t true true true true true true true true true false

/-- What a command that answers a next state leaves as it was. -/
theorem exec_touch (c : Instr) (s t : State) (he : exec c s = .next t) : touch c s t := by
  cases c <;> simp only [exec] at he <;> unfold touch <;> dsimp only
  case declareValid => unfold execDeclareValid at he; split at he <;> cases he <;> constructor <;> simp
  case loadBegin => unfold execLoadBegin at he; split at he <;> cases he <;> constructor <;> simp
  case stationClockTick => unfold execStationClockTick at he; split at he <;> cases he <;> constructor <;> simp
  case readingHeader r =>
    unfold execReadingHeader at he; split at he <;> try split at he
    all_goals (cases he; constructor <;> simp)
  case readingBody =>
    unfold execReadingBody at he; split at he <;> try split at he
    all_goals try (dsimp only at he; split at he)
    all_goals (cases he; constructor <;> simp)
  case wordTransferTimeout => unfold execWordTransferTimeout at he; split at he <;> cases he <;> constructor <;> simp
  case sampleSet => unfold execSampleSet at he; split at he <;> cases he <;> constructor <;> simp
  case confirmationTimerExpiry => unfold execConfirmationTimerExpiry at he; split at he <;> cases he <;> constructor <;> simp
  case dwellComplete =>
    unfold execDwellComplete at he; split at he
    · dsimp only at he; split at he <;> cases he <;> constructor <;> simp
    · cases he; constructor <;> simp
  case syncFound =>
    unfold execSyncFound at he; split at he <;> try split at he
    all_goals try split at he
    all_goals (cases he; constructor <;> simp)
  case frameChecked =>
    unfold execFrameChecked at he; split at he <;> try split at he
    · dsimp only at he; split at he <;> try split at he
      all_goals (cases he; constructor <;> simp)
    · split at he <;> cases he <;> constructor <;> simp
    all_goals (cases he; constructor <;> simp)
  case syncMissing =>
    unfold execSyncMissing at he; split at he <;> try (dsimp only at he; split at he)
    all_goals (cases he; constructor <;> simp)
  case syncTimerExpiry =>
    unfold execSyncTimerExpiry at he; split at he <;> try split at he
    all_goals (cases he; constructor <;> simp)
  case recordAgeTick q =>
    unfold execRecordAgeTick at he; split at he <;> try split at he
    · dsimp only at he
      split at he <;> cases he <;> constructor <;> simp
    all_goals (cases he; constructor <;> simp)
  case frameSnapshot => unfold execFrameSnapshot at he; split at he <;> cases he <;> constructor <;> simp
  case judgementEpoch => unfold execJudgementEpoch at he; split at he <;> cases he <;> constructor <;> simp
  case probeEpochRetry => unfold execProbeEpochRetry at he; split at he <;> cases he <;> constructor <;> simp
  case roundEpochRetry =>
    unfold execRoundEpochRetry at he; split at he <;> try split at he
    all_goals (cases he; constructor <;> simp)
  case ampIsolationRequest =>
    unfold execAmpIsolationRequest at he; split at he
    · dsimp only at he; split at he <;> try split at he
      all_goals (cases he; constructor <;> simp)
    · cases he; constructor <;> simp
  case pumpIsolationRequest =>
    unfold execPumpIsolationRequest at he; split at he
    · dsimp only at he; split at he <;> try split at he
      all_goals (cases he; constructor <;> simp)
    · cases he; constructor <;> simp
  case stepTimerExpiry j => unfold execStepTimerExpiry at he; split at he <;> cases he <;> constructor <;> simp
  case probeIntervalExpiry =>
    unfold execProbeIntervalExpiry at he; split at he <;> try (dsimp only at he; split at he)
    all_goals (cases he; constructor <;> simp)
  case probeDriveRequest =>
    unfold execProbeDriveRequest at he; split at he <;> try (dsimp only at he; split at he)
    all_goals (cases he; constructor <;> simp)
  case probeWindowExpiry => unfold execProbeWindowExpiry at he; split at he <;> cases he <;> constructor <;> simp
  case restoreRequest => unfold execRestoreRequest at he; split at he <;> cases he <;> constructor <;> simp
  case gapTimerExpiry => unfold execGapTimerExpiry at he; split at he <;> cases he <;> constructor <;> simp
  case readStatus => unfold execReadStatus at he; split at he <;> cases he <;> constructor <;> simp
  case readPresence => unfold execReadPresence at he; split at he <;> cases he <;> constructor <;> simp
  case readObservation => unfold execReadObservation at he; split at he <;> cases he <;> constructor <;> simp
  case writeDirective =>
    unfold execWriteDirective at he; split at he <;> try split at he
    all_goals try split at he
    all_goals (cases he; constructor <;> simp)
  case clearDirective => unfold execClearDirective at he; split at he <;> cases he <;> constructor <;> simp
  case readRecord => unfold execReadRecord at he; split at he <;> try split at he
                     all_goals (cases he; constructor <;> simp)
  case advance => unfold execAdvance at he; split at he <;> cases he <;> constructor <;> simp
  case clearQueue => unfold execClearQueue at he; split at he <;> cases he <;> constructor <;> simp
  case badCommand => unfold execBadCommand at he; split at he <;> cases he <;> constructor <;> simp
  case recordTimerExpiry => unfold execRecordTimerExpiry at he; split at he <;> cases he <;> constructor <;> simp
  case absoluteTimerExpiry => unfold execAbsoluteTimerExpiry at he; split at he <;> cases he <;> constructor <;> simp

/-- A command taken at the SPI pins touches the Terminal Port alone. -/
theorem taken_touch (bits : List Bool) (c : Instr) (s t : State) (hd : decodeBits bits = some c)
    (he : exec c s = .next t) : Keeps s t true true true true true true true true true false := by
  have h := exec_touch c s t he
  unfold decodeBits decodeTransaction at hd
  split at hd
  · cases hd
  · split at hd <;> cases hd <;> exact h

/-- All that a step can be: the command at the front of the queue, a command taken at the SPI pins, levels at the SPI pins that
take none, or one millisecond. -/
theorem step_cases (s t : State) (h : step s = .next t) :
    (∃ c rest, s.pending = c :: rest ∧ exec c { s with pending := rest } = .next t) ∨
    (s.pending = [] ∧ ∃ bits c spi, decodeBits bits = some c ∧ exec c { s with spi := spi } = .next t) ∨
    (s.pending = [] ∧ ∃ spi, t = { s with spi := spi }) ∨
    (s.pending = [] ∧ s.spi.waiting = [] ∧ t = { s with now := s.now + 1 }) := by
  unfold step at h
  split at h
  case h_1 hp =>
    split at h
    case h_1 p rest hw =>
      rcases State.seePins_eq { s with spi := { s.spi with waiting := rest } } p with ⟨c, -, hc, he⟩ | ⟨-, he⟩
      · obtain ⟨bits, -, hb⟩ := Option.bind_eq_some_iff.mp hc
        exact .inr (.inl ⟨hp, bits, c, _, hb, he ▸ h⟩)
      · rw [he] at h; cases h
        exact .inr (.inr (.inl ⟨hp, _, rfl⟩))
    case h_2 hw => cases h; exact .inr (.inr (.inr ⟨hp, hw, rfl⟩))
  case h_2 c rest hp => exact .inl ⟨c, rest, hp, h⟩

end Sys2Proof.Machine
end

