-- ==== Sys2Proof/Laws/Shared.lean ====
section
/-! SUPPORT. What the operations do in the words that statements share: the report to the TTX in `MarkerFollows`, a
recomputation of the targets in `targetSum` and `Steered`. -/

namespace Sys2Proof.Machine

/-! ### The marker (R18, R19) -/

@[simp] theorem State.report_markerNow (s : State) : s.report.markerNow = s.markerNow := rfl

/-- A report at the end of an event that touches the TTX in no other way. -/
theorem State.report_markerFollows {s u : State} (h : u.ttx = s.ttx) : MarkerFollows s u.report := by
  unfold MarkerFollows
  rw [State.report_ttx, h, State.report_markerNow]
  cases s.ttx <;> rfl

/-- An event that moves no condition and leaves the TTX alone. -/
theorem MarkerFollows.of_eq {s t : State} (hs : MarkerCurrent s) (ht : t.ttx = s.ttx)
    (hm : t.markerNow = s.markerNow) : MarkerFollows s t := by
  unfold MarkerCurrent at hs
  unfold MarkerFollows
  rw [ht, hm]
  split at hs
  · next x h => rw [h, ← hs]
  · next h => rw [h]

/-! ### The targets (R132, R133) -/

theorem Pbc.isIn_off (p : Pbc) (l : Nat) :
    p.isIn l [.off] = decide ((p.pumps[l]?.map Pump.state) = some .off) := by
  unfold Pbc.isIn
  cases h : p.pumps[l]? with
  | none => simp
  | some x => cases hx : x.state <;> simp [hx]

@[simp] theorem Pbc.targetOf_eq (p : Pbc) (c : Commissioning) (j : Nat) : p.targetOf c j = targetSum c p j := by
  unfold Pbc.targetOf targetSum Pbc.demandCount Pbc.offOverlaps
  have h : (fun i => i != j && p.isIn i [.off] && c.intersects i j) =
      fun l => decide (l ≠ j ∧ (p.pumps[l]?.map Pump.state) = some .off) && c.intersects l j := by
    funext l
    rw [Pbc.isIn_off]
    by_cases hl : l = j
    · simp [hl]
    · simp [hl, bne_iff_ne.mpr hl]
  rw [h]

/-- The sum depends on the Demand List and on which pumps are OFF alone. -/
theorem targetSum_congr {c : Commissioning} {p p' : Pbc} (hd : p'.demands = p.demands)
    (hs : p'.pumps.map Pump.state = p.pumps.map Pump.state) (j : Nat) : targetSum c p' j = targetSum c p j := by
  have hl : p'.pumps.length = p.pumps.length := by simpa using congrArg List.length hs
  have hg : ∀ l : Nat, p'.pumps[l]?.map Pump.state = p.pumps[l]?.map Pump.state := fun l => by
    simpa using congrArg (fun xs => xs[l]?) hs
  unfold targetSum
  simp only [hd, hl, hg]

/-- R133 for one pump that takes the target `target`. -/
theorem Pump.ramp_steered (k : PumpConfig) (now : Moment) (target : Nat) (x : Pump) :
    Steered k now target x (Pump.ramp k now { x with target := target }) := by
  unfold Pump.ramp Steered Pump.busy
  by_cases ha : x.state = .active
  · by_cases hd : x.applied = target
    · simp [ha, hd]
    · by_cases hk : k.interval = 0 <;> simp [ha, hd, hk, Config.stepUnit]
  · simp [ha]

@[simp] theorem Pbc.retarget_demands (p : Pbc) (c : Commissioning) (now : Moment) :
    (p.retarget c now).demands = p.demands := rfl

/-- A recomputation moves no pump's state. -/
theorem Pbc.retarget_states (p : Pbc) (c : Commissioning) (now : Moment) :
    (p.retarget c now).pumps.map Pump.state = p.pumps.map Pump.state := by
  apply List.ext_getElem?
  intro j
  simp only [Pbc.retarget, List.getElem?_map, List.getElem?_mapIdx, Option.map_map]
  cases p.pumps[j]? with
  | none => rfl
  | some x => exact congrArg some (Pump.ramp_steered _ _ _ _).1

/-- A recomputation of the targets, pump by pump: each takes R132's sum over the PBC afterwards, as R133 has it. -/
theorem Pbc.retarget_steered (p : Pbc) (c : Commissioning) (now : Moment) {j : Nat} {x : Pump}
    (h : p.pumps[j]? = some x) :
    ∃ y, (p.retarget c now).pumps[j]? = some y ∧
      Steered (c.pump j) now (targetSum c (p.retarget c now) j) x y := by
  have hsum : targetSum c (p.retarget c now) j = targetSum c p j :=
    targetSum_congr (Pbc.retarget_demands p c now) (Pbc.retarget_states p c now) j
  refine ⟨Pump.ramp (c.pump j) now { x with target := p.targetOf c j }, ?_, ?_⟩
  · simp [Pbc.retarget, h]
  · rw [hsum, ← Pbc.targetOf_eq]
    exact Pump.ramp_steered _ _ _ _

/-- A pump that is sound and whose target is current and, with step interval 0, taken, stands. -/
theorem Pump.ramp_stands {k : PumpConfig} {now : Moment} {x : Pump} (hs : pumpSound k x)
    (ht : k.interval = 0 → x.state = .active → x.applied = x.target) : Pump.ramp k now x = x := by
  have hstep : x.step.isSome = x.busy := hs.2.2.2.1
  unfold Pump.ramp
  cases hb : x.busy with
  | false =>
    rw [hb] at hstep
    cases hx : x.step with
    | none => cases x; simp_all
    | some d => simp [hx] at hstep
  | true =>
    have hk : k.interval ≠ 0 := fun h0 => by
      unfold Pump.busy at hb
      simp at hb
      exact hb.2 (ht h0 hb.1)
    rw [hb] at hstep
    cases hx : x.step with
    | none => simp [hx] at hstep
    | some d => cases x; simp_all

/-- Where every target is current a recomputation changes nothing (R132). -/
theorem Pbc.retarget_stands {s : State} (now : Moment) (hs : PumpsSound s) (ht : TargetsCurrent s) :
    s.pbc.retarget s.cfg now = s.pbc := by
  have h : (s.pbc.retarget s.cfg now).pumps = s.pbc.pumps := by
    apply List.ext_getElem?
    intro j
    simp only [Pbc.retarget, List.getElem?_mapIdx]
    cases hx : s.pbc.pumps[j]? with
    | none => rfl
    | some x =>
      have hj := ht j x hx
      have he : ({ x with target := s.pbc.targetOf s.cfg j } : Pump) = x := by
        rw [Pbc.targetOf_eq, ← hj.1]
      simp only [Option.map_some, he]
      exact congrArg some (Pump.ramp_stands (hs j x hx) hj.2)
  show ({ s.pbc with pumps := (s.pbc.retarget s.cfg now).pumps } : Pbc) = s.pbc
  rw [h]

end Sys2Proof.Machine
end

