-- ==== Sys2Proof/WellFormed.lean ====
section
/-! DEFINITION. Which commands are well-formed: their operands are ones that the boundary can deliver. -/

namespace Sys2Proof

/-- The front ends deliver integers from -7000 to +3500 cdBm (R4). -/
def Readings.wf (r : Readings) : Bool :=
  r.input.toList.all (fun x => decide (-7000 ≤ x) && decide (x ≤ 3500)) &&
    r.output.toList.all fun x => decide (-7000 ≤ x) && decide (x ≤ 3500)

/-- Words are read whole, and a transaction reads at least one (R164). -/
def BusReply.wf : BusReply → Bool
  | .data bytes => decide (0 < bytes.length) && bytes.length % 2 == 0
  | _ => true

/-- Trackers are T0 to T5, or T0 to T11 in the inbound bank of a TERMINAL station (R48). -/
def trackerWf (t : Nat) : Bool := decide (t < 12)

/-- The four depths of a dwell (R41).  DESIGN CHOICE (log entry 5): R41 states no upper bound; the model calls a depth
well-formed up to the whole of the mean received light, 1000000 millionths.  `exec` takes any depth. -/
def Depths.wf (d : Depths) : Bool :=
  decide (d.isolated ≤ 1000000) && decide (d.nominal ≤ 1000000) && decide (d.probing ≤ 1000000) &&
    decide (d.alarm ≤ 1000000)

/-- The bits that come in while a frame is read are at most those of the longest frame after its sync, 409 - 16 (R31). -/
def frameBitsWf (bits : List Bool) : Bool := decide (bits.length ≤ 393)

/-- The bits that come in while a sync is expected are at most 16 (R51). -/
def syncBitsWf (bits : List Bool) : Bool := decide (bits.length ≤ 16)

/-- A position is 1 to 254 (section 3.1). -/
def positionWf (q : Byte) : Bool := decide (1 ≤ q.toNat) && decide (q.toNat ≤ 254)

/-- The codes that name a command are 0x01 to 0x08 (R191). -/
def namesCommand (code : Byte) : Bool := decide (1 ≤ code.toNat) && decide (code.toNat ≤ 8)

def Instr.wf : Instr → Bool
  | .coldStart => true
  | .loadBegin _ => true
  | .stationClockTick => true
  | .readingHeader reply => reply.wf
  | .readingBody reply => reply.wf
  | .wordTransferTimeout => true
  | .declareValid raw => raw.wf
  | .sampleSet raw => raw.wf
  | .confirmationTimerExpiry _ => true
  | .dwellComplete _ d => d.wf
  | .syncFound _ t => trackerWf t.tracker
  | .frameChecked _ t bits => trackerWf t && frameBitsWf bits
  | .syncMissing _ t => trackerWf t.tracker && syncBitsWf t.bits
  | .syncTimerExpiry _ t => trackerWf t
  | .recordAgeTick q => positionWf q
  | .frameSnapshot => true
  | .judgementEpoch => true
  | .probeEpochRetry => true
  | .roundEpochRetry => true
  | .ampIsolationRequest => true
  | .pumpIsolationRequest => true
  | .stepTimerExpiry j => decide (j < 4)
  | .probeIntervalExpiry => true
  | .probeDriveRequest => true
  | .probeWindowExpiry => true
  | .restoreRequest => true
  | .gapTimerExpiry => true
  | .readStatus => true
  | .readPresence _ => true
  | .readObservation _ => true
  | .writeDirective _ _ => true
  | .clearDirective => true
  | .readRecord _ => true
  | .advance _ => true
  | .clearQueue => true
  | .badCommand code => !namesCommand code
  | .recordTimerExpiry => true
  | .absoluteTimerExpiry => true

end Sys2Proof
end

