-- ==== Sys2Proof/Tests/Slice0.lean ====
section
/-! SUPPORT. Tests: each check of WellFormed refuses an ill-formed command, the worked examples of the spec, one small step of
each command, and for every statement with hypotheses a state and operands that meet them. -/

set_option Elab.async false

namespace Sys2Proof.Tests

open Sys2Proof Sys2Proof.Machine

/-! ## Stations -/

/-- A commissioning record with n = 1, m = 1, the line from 1 to 120, supervisory pair 1, shift 3, classes from -40, -30 and
-20 dBm, one pump that feeds both amplifiers (floor 150, base 420, ceiling 600, depth 50, step 10 per 10 ms); `second` is
word 1 (position, role, counts) and `check` the check word. -/
def record (second check : Word) : List Word :=
  [0x9D26, second, 0x0178, 0x0103, 0xFFFF, 0xFFFF, 0xFFFF, 0xFFFF, 0xF060, 0xF448, 0xF830, 0x0064, 0x0032, 0x0064,
    0x0032, 0x00C8, 0x44F0, 0x1060, 0x080C, 0x01F4] ++
  [0x141E, 0x0258, 0x030A, 0x0008, 0x0A10, 0x07D0, 0x03E8, 0x07D0, 0x0FA0, 0x07D0, 0x03E8, 0x07D0, 0x0FA0, 0x030A,
    0x05A4, 0x0096, 0x0258, 0x0032, check]

/-- A repeater at position 37, and the west terminal at position 1. -/
def repeaterRecord : List Word := record 0x2511 0x8777
def terminalRecord : List Word := record 0x0191 0xAAF7

/-- The state in SAMPLING of a station whose record has passed its checks. -/
def sampled (strap : Role) (image : List Word) : State :=
  { State.reset with
    cfl := { Cfl.cold with resetHeld := false, strap := strap, phase := .sampling, image := image } }

/-- Readings of one level on every input meter and of another on every output meter. -/
def level (input output : Int) : Readings := ⟨Vector.replicate 8 input, Vector.replicate 8 output⟩

/-- The stations right after DECLARE_VALID, lit: -15 dBm in, +5 dBm out; and a repeater whose inputs are DARK. -/
def repeater : State := (sampled .repeater repeaterRecord).declare (level (-1500) 500)
def terminal : State := (sampled .terminal terminalRecord).declare (level (-1500) 500)
def unlit : State := (sampled .repeater repeaterRecord).declare (level (-7000) 500)

theorem test_repeater_record_passes : onesSum repeaterRecord = 0xFFFF ∧
    firstFailure (readCommissioning repeaterRecord) .repeater = none := by decide +kernel

theorem test_terminal_record_passes : onesSum terminalRecord = 0xFFFF ∧
    firstFailure (readCommissioning terminalRecord) .terminal = none := by decide +kernel

theorem test_pinned_example : (repeater.rbe.trackers.filterMap Tracker.pos) = [36, 35, 1] ∧
    (repeater.rbw.trackers.filterMap Tracker.pos) = [38, 39, 120] := by decide +kernel

theorem test_pinned_terminal : terminal.rbe.trackers = [] ∧
    terminal.rbw.trackers.filterMap Tracker.pos = [2, 3, 120] ∧ terminal.rbw.trackers.length = 12 := by decide +kernel

/-! ## WellFormed refuses what the boundary cannot deliver -/

theorem test_wf_reading_below : (Instr.sampleSet (level (-7001) 0)).wf = false := by decide +kernel
theorem test_wf_reading_above : (Instr.declareValid (level 0 3501)).wf = false := by decide +kernel
theorem test_wf_reply_empty : (Instr.readingHeader (.data [])).wf = false := by decide +kernel
theorem test_wf_reply_odd : (Instr.readingBody (.data [1, 2, 3])).wf = false := by decide +kernel
theorem test_wf_depth : (Instr.dwellComplete .e ⟨0, 0, 0, 1000001⟩).wf = false := by decide +kernel
theorem test_wf_tracker : (Instr.syncFound .w ⟨12, []⟩).wf = false := by decide +kernel
theorem test_wf_sync_bits : (Instr.syncMissing .e ⟨0, List.replicate 17 true⟩).wf = false := by decide +kernel
theorem test_wf_bits_long : (Instr.frameChecked .e 0 (List.replicate 394 true)).wf = false := by decide +kernel
theorem test_wf_position_low : (Instr.recordAgeTick 0).wf = false := by decide +kernel
theorem test_wf_position_high : (Instr.recordAgeTick 255).wf = false := by decide +kernel
theorem test_wf_pump : (Instr.stepTimerExpiry 4).wf = false := by decide +kernel
theorem test_wf_code : (Instr.badCommand 8).wf = false := by decide +kernel
theorem test_wf_accepts : (Instr.sampleSet (level (-7000) 3500)).wf = true ∧ (Instr.badCommand 9).wf = true ∧
    (Instr.frameChecked .e 11 (List.replicate 393 true)).wf = true ∧
    (Instr.syncMissing .e ⟨11, List.replicate 16 true⟩).wf = true := by decide +kernel

/-! ## The bytes of an SPI transaction (R191): each code as the rule's table gives it -/

theorem test_spi_codes : decodeTransaction [0x01] = some .readStatus ∧
    decodeTransaction [0x02, 7] = some (.readRecord 7) ∧ decodeTransaction [0x03, 128] = some (.advance 128) ∧
    decodeTransaction [0x04, 2, 255] = some (.writeDirective 2 255) ∧
    decodeTransaction [0x05] = some .clearDirective ∧ decodeTransaction [0x06, 38] = some (.readPresence 38) ∧
    decodeTransaction [0x07, 38] = some (.readObservation 38) ∧ decodeTransaction [0x08] = some .clearQueue ∧
    decodeTransaction [0x09, 1] = some (.badCommand 9) := by decide +kernel
theorem test_spi_cut_short : decodeTransaction [0x04, 2] = none ∧ decodeTransaction [] = none := by decide +kernel
/-- R188: the byte 0x06 and then 0x26, most significant bit first, and a third byte cut short. -/
theorem test_spi_bits :
    decodeBits ([false, false, false, false, false, true, true, false] ++
      [false, false, true, false, false, true, true, false] ++ [true, true, true]) = some (.readPresence 38) := by
  decide +kernel
/-- R191: 0xFF through the command and its operand, then status 0x03 (BAD_COMMAND) bit by bit; nothing while deselected. -/
theorem test_spi_out :
    let s : State := { terminal with tpt := { terminal.tpt with response := some ⟨.badCommand, []⟩ } }
    ((List.range 24).map fun i => s.dataOut .low 0x09 i) =
      (List.replicate 8 (some .high) ++ List.replicate 6 (some .low) ++ List.replicate 2 (some .high) ++
        List.replicate 8 (some .low)) ∧
    s.dataOut .high 0x09 8 = none ∧ repeater.dataOut .low 0x01 0 = none := by decide +kernel

/-- R175, mode 0: a terminal whose SPI transaction has sampled `bits`, with SCK low, and one whose SCK is high. -/
def selected (bits : List Bool) : State :=
  { terminal with spi := { pins := ⟨.low, .low, .low⟩, bits := some bits, waiting := [] } }
def clockHigh (bits : List Bool) : State :=
  { terminal with spi := { pins := ⟨.high, .low, .low⟩, bits := some bits, waiting := [] } }

/-- SDI is sampled on the rising edge only, high as 1 and low as 0, and chip select frames the transaction: its falling begins
a new one, its rise ends it, and levels at an inactive port or without a fall of chip select begin none. -/
theorem test_spi_edges :
    ((selected [true]).spi.see true ⟨.high, .high, .low⟩).bits = some [true, true] ∧
    ((selected [true]).spi.see true ⟨.high, .low, .low⟩).bits = some [true, false] ∧
    ((selected [true]).spi.see true ⟨.low, .high, .low⟩).bits = some [true] ∧
    ((clockHigh [true]).spi.see true ⟨.high, .high, .low⟩).bits = some [true] ∧
    ((clockHigh [true]).spi.see true ⟨.low, .high, .low⟩).bits = some [true] ∧
    ((selected [true]).spi.see true ⟨.low, .low, .high⟩).bits = none ∧
    (Spi.rest.see true ⟨.low, .low, .low⟩).bits = some [] ∧ (Spi.rest.see false ⟨.low, .low, .low⟩).bits = none ∧
    ((Spi.rest.see false ⟨.low, .low, .low⟩).see true ⟨.high, .low, .low⟩).bits = none := by decide +kernel

/-- R175: the rising edge that completes 0x01 takes READ_STATUS whole and at once; released one bit earlier, nothing is
taken; with the operand of ADVANCE still to come, neither; and a cold start abandons the transaction. -/
theorem test_spi_command_taken :
    let seven := [false, false, false, false, false, false, false]
    let view := fun (s : State) => (s.spi.bits.map List.length, s.tpt.response.map fun r => r.payload.length)
    let run := fun (bits : List Bool) (p : SpiPins) =>
      match step { selected bits with spi := { (selected bits).spi with waiting := [p] } } with
      | .next t => some (view t)
      | _ => none
    run seven ⟨.high, .high, .low⟩ = some (some 8, some 7) ∧ run seven ⟨.low, .high, .high⟩ = some (none, none) ∧
    run (seven.take 6 ++ [true]) ⟨.high, .high, .low⟩ = some (some 8, none) ∧
    (match exec .coldStart (selected seven) with
      | .next t => some (view t)
      | _ => none) = some (none, none) := by decide +kernel

/-- R191: SDO gives 0xFF to the end of the last operand clock, and the first bit of the status after its falling edge. -/
theorem test_spi_pin_out :
    let answered := fun (s : State) => { s with tpt := { s.tpt with response := some ⟨.badCommand, []⟩ } }
    let nine := [false, false, false, false, true, false, false, true]
    (answered (clockHigh nine)).sdo = some .high ∧ (answered (selected nine)).sdo = some .low ∧
    (answered (selected (nine.take 7))).sdo = some .high ∧ State.reset.sdo = none := by decide +kernel

/-! ## Worked examples of the spec -/

/-- The frame of station 36: the repeater's own snapshot, sent from position 36. -/
def neighbour : Frame := { repeater.snapshot .nominal with origin := 36 }

/-- The table of R6 for k = 3. -/
theorem test_smoothing_table : [-1000, -10, -5, -4, 3, 4, 10].map (smoothStep 3) = [-125, -1, -1, 0, 0, 1, 1] := by
  decide +kernel

/-- R30: the nine ASCII digits leave the register at 0x29B1. -/
theorem test_crc_digits :
    crc ([0x31, 0x32, 0x33, 0x34, 0x35, 0x36, 0x37, 0x38, 0x39].flatMap (bitsOf 8)) = 0x29B1 := by decide +kernel

/-- R166: 0xF3A1 + 0x1C7B with the carry folded back. -/
theorem test_end_around : onesSum [0xF3A1, 0x1C7B] = 0x101D ∧ onesSum [0x6E42, 0x91BD] = 0xFFFF := by decide +kernel

/-- 8.6.1: with two pumps on both supervisory-pair amplifiers, each counts as the last feeding once the other is OFF. -/
theorem test_last_feeding :
    (Pbc.lastFeeding { repeater.pbc with pumps := repeater.pbc.pumps } repeater.cfg 0 0) = true := by decide +kernel

/-- R31's table: 137 bits for one pair and one pump. -/
theorem test_shortest_frame : (frameBits (repeater.snapshot .nominal)).length = 137 := by decide +kernel

/-- R27 to R29, R188, R189, by hand: station 36, a REPEATER of one pair and one pump, ALARM, with its probe flag on pump 2 and
a RESTART of id 9 for station 37; both amplifiers at -1500 (0xFA24) in and 500 (0x01F4) out, NOMINAL, NORMAL, span UNKNOWN and
gain CLEAR; the pump ACTIVE with verdict UNKNOWN. -/
theorem test_frame_on_the_line :
    let header :=
      [1, 1, 1, 0, 0, 1, 0, 0, 1, 0, 1, 1, 0, 0, 1, 1] ++
      [0, 0, 1, 0, 0, 1, 0, 0] ++ [0] ++ [0, 0] ++ [1, 0] ++ [1] ++ [1] ++ [1, 0] ++ [0, 0]
    let amp :=
      [1, 1, 1, 1, 1, 0, 1, 0, 0, 0, 1, 0, 0, 1, 0, 0] ++
      [0, 0, 0, 0, 0, 0, 0, 1, 1, 1, 1, 1, 0, 1, 0, 0] ++ [1, 1] ++ [0, 0] ++ [1, 1, 1] ++ [0, 0]
    let pump := [0, 0] ++ [1, 1]
    let directive := [1, 0] ++ [0, 0, 1, 0, 0, 1, 0, 1] ++ [1, 0, 0, 1]
    (frameBits { neighbour with
      marker := .alarm, probeActive := true, probePump := 2, directive := some ⟨.restart, 37, 9⟩ }).take 135 =
      (header ++ amp ++ amp ++ pump ++ directive).map fun x : Nat => x == 1 := by decide +kernel

/-- R182, two of its examples. -/
theorem test_severity : (Change.spanVerdict 0 .fibre .cable).severity = .critical ∧
    (Change.presence .silent .nominal).severity = .info := by decide +kernel

/-- 12 of R111's worked lines: DIRECT with a CLEAR partner is FIBRE, with an UNKNOWN one UNPAIRED, SKIPPED is SILENT_NEIGHBOUR. -/
theorem test_span_kinds :
    let e : SpanEntry := ⟨96, .faulty, .none, 0, .direct⟩
    (e.settle 2 false (some .clear)).kind = .fibre ∧ (e.settle 2 false (some .unknown)).kind = .unpaired ∧
      (e.settle 2 true (some .clear)).kind = .cable ∧
      (SpanEntry.settle 2 true none { e with basis := .skipped }).kind = .silentNeighbour := by decide +kernel

/-- 7.3.1: BAD evidence from 92 declares at 96; GOOD from 9 clears a FAULTY entry at 8. -/
theorem test_level_rule : rescored repeater.cfg .suspect 92 (raised 92 4) = .faulty ∧
    rescored repeater.cfg .faulty 9 8 = .clear := by decide +kernel

/-! ## One step of each command -/

/-- The state that a command answers, where it answers one. -/
def after (c : Instr) (s : State) : Option State :=
  match exec c s with
  | .next t => some t
  | _ => none

/-- A part of the state that a command answers. -/
def sees {α : Type} (c : Instr) (s : State) (view : State → α) : Option α := (after c s).map view

/-- A part in the loading of a record, its strap sampled, at the given phase with the words read so far. -/
def loading (phase : LoadPhase) (image : List Word) : State :=
  { State.reset with
    cfl := { Cfl.cold with resetHeld := false, strap := .repeater, phase := phase, image := image } }

/-- The bytes of a record's words after the first. -/
def body (image : List Word) : List Byte := image.tail.flatMap fun w => [w.extractLsb' 8 8, w.extractLsb' 0 8]

/-- A neighbour's frame with its probe flag set, in a station that probes and in one that does not; the amplifier of index 0
BYPASSED. -/
def flagged : Frame := { neighbour with probeActive := true }
def bypassing : Frame := { neighbour with amps := neighbour.amps.map fun a => { a with state := .bypassed } }

/-- The repeater with T0 of RBE, which listens to 36, reading a frame. -/
def reading (s : State) : State := s.onTracker .e 0 fun t => { t with reception := .reading }

/-- The repeater after a frame of 36. -/
def heard (f : Frame) (s : State) : State := (after (.frameChecked .e 0 (afterSyncBits f)) (reading s)).getD s

/-- The repeater with its pump at base, and with its probe unit in the states of a probe on pump 0. -/
def settled : State :=
  { repeater with pbc := { repeater.pbc with pumps := [⟨.active, 420, 420, false, none, none⟩] } }
def probe : Probe := ⟨0, .scheduled, [(0, 500), (1, 500)]⟩
def starting : State :=
  { settled with pru := { settled.pru with state := .starting probe }, pbc := { settled.pbc with driveRequests := [⟨0, false⟩] } }
def probing : State := (after .probeDriveRequest starting).getD starting

theorem test_cold_start : sees .coldStart unlit (fun s => (s.cfl.valid, s.ttx, s.records, s.tpt.queue)) =
    some (false, .silent, [], []) := by decide +kernel
/-- R188: a ROLE strap that is high is TERMINAL. -/
theorem test_load_begin : sees (.loadBegin .high) State.reset (fun s => (s.cfl.strap, s.portActive)) =
    some (.terminal, true) := by decide +kernel
theorem test_clock_tick : sees .stationClockTick terminal (fun s => s.cfl.clock) = some 1 := by decide +kernel
/-- R165: an erased memory fails BAD_MAGIC. -/
theorem test_header_erased : sees (.readingHeader (.data [0xFF, 0xFF])) (loading .readingHeader []) (fun s => s.cfl.result) =
    some (some .badMagic) := by decide +kernel
theorem test_header_good : sees (.readingHeader (.data [0x9D, 0x26])) (loading .readingHeader [])
    (fun s => (s.cfl.phase, s.cfl.image)) = some (.readingBody, [0x9D26]) := by decide +kernel
/-- R167: a terminal's record in a repeater's socket fails with check 1. -/
theorem test_body_wrong_role : sees (.readingBody (.data (body terminalRecord))) (loading .readingBody [0x9D26])
    (fun s => (s.cfl.result, s.cfl.image)) = some (some (.badField 1), []) := by decide +kernel
theorem test_body_good : sees (.readingBody (.data (body repeaterRecord))) (loading .readingBody [0x9D26])
    (fun s => (s.cfl.phase, s.cfl.image)) = some (.sampling, repeaterRecord) := by decide +kernel
theorem test_word_timeout : sees .wordTransferTimeout (loading .readingBody [0x9D26]) (fun s => s.cfl.result) =
    some (some .absent) := by decide +kernel
/-- R126: a station that starts with dark inputs shows ALARM and LOSS_OF_LIGHT. -/
theorem test_declare_dark : sees (.declareValid (level (-7000) 500)) (sampled .repeater repeaterRecord)
    (fun s => (s.markerNow, s.flt.spans.map SpanEntry.verdict, s.rbe.state)) =
    some (.alarm, [.lossOfLight, .lossOfLight], .darkWatch) := by decide +kernel
/-- R6's table: a difference of 10 moves the smoothed value by 1. -/
theorem test_sample_set : sees (.sampleSet (level (-1490) 490)) repeater (fun s => (s.lmu.sIn 0, s.lmu.sOut 0)) =
    some (-1499, 499) := by decide +kernel
theorem test_confirmation : sees (.confirmationTimerExpiry .e)
    { unlit with rbe := { unlit.rbe with state := .wakePending, confirm := some 2000 } }
    (fun s => (s.rbe.state, s.rbe.dwell, s.rbe.map.any MapEntry.held)) =
    some (.running, some ⟨1, 2050⟩, false) := by decide +kernel
theorem test_dwell_pending : sees (.dwellComplete .w ⟨0, 0, 0, 500⟩) repeater
    (fun s => ((findEntry s.rbw.map 254).bind MapEntry.pending, s.rbw.dwell)) =
    some (some .alarm, some ⟨253, 100⟩) := by decide +kernel
/-- R189's pattern 1110 0100 1011 0011, found behind a 1 and before a 0. -/
def syncPattern : List Bool :=
  [true, true, true, false, false, true, false, false, true, false, true, true, false, false, true, true]
theorem test_sync_found : sees (.syncFound .e ⟨0, true :: syncPattern ++ [false]⟩) repeater
    (fun s => s.rbe.trackers.map fun k => (k.reception, k.ahead)) =
    some [(.reading, [false]), (.hunting, []), (.hunting, []), (.hunting, []), (.hunting, []), (.hunting, [])] := by
  decide +kernel
theorem test_sync_not_found : sees (.syncFound .e ⟨0, false :: syncPattern.tail⟩) repeater
    (fun s => s.rbe.trackers.map Tracker.reception) =
    some [.hunting, .hunting, .hunting, .hunting, .hunting, .hunting] := by decide +kernel
/-- R164: a byte 0xAC on the two lines, each bit set while MSCL is low. -/
theorem test_bus_byte : ((BusSymbol.sent 0xAC).wires.filter fun w => w.mscl = .high).map Wires.msda =
    [.high, .low, .high, .low, .high, .high, .low, .low] ∧
    (BusSymbol.sent 0xAC).wires.length = 24 := by decide +kernel
theorem test_frame_checked : sees (.frameChecked .e 0 (afterSyncBits neighbour)) (reading repeater)
    (fun s => (standing s.records 36, freshContents s.records 36, s.rbe.trackers.map Tracker.state)) =
    some (.fresh, some neighbour, [.locked, .acquiring, .acquiring, .idle, .idle, .idle]) := by decide +kernel
theorem test_frame_damaged : sees (.frameChecked .e 0 (true :: (afterSyncBits neighbour).tail)) (reading repeater)
    (fun s => (standing s.records 36, s.rbe.trackers.map Tracker.reception, s.rbe.trackers[0]?.map fun k =>
      k.ahead.take 17)) =
    some (.vacant, [.hunting, .hunting, .hunting, .hunting, .hunting, .hunting], some (syncPattern.tail ++ [true, false])) := by
  decide +kernel
theorem test_sync_missing : sees (.syncMissing .e ⟨0, List.replicate 16 true⟩) (heard neighbour repeater)
    (fun s => s.rbe.trackers.map Tracker.failed) = some [1, 0, 0, 0, 0, 0] := by decide +kernel
theorem test_sync_timer : sees (.syncTimerExpiry .e 0) (heard neighbour repeater)
    (fun s => (s.now, s.rbe.trackers.map Tracker.state)) =
    some (8000, [.acquiring, .acquiring, .acquiring, .idle, .idle, .idle]) := by decide +kernel
/-- R76: with L = 12 s the record is STALE when its age reaches 121. -/
theorem test_stale_at_121 : sees (.recordAgeTick 36)
    { heard neighbour repeater with
      records := (heard neighbour repeater).records.map fun r => { r with age := if r.origin = 36 then 120 else 0 } }
    (fun s => standing s.records 36) = some .stale := by decide +kernel
/-- R31: 1.096 s for one pair and one pump. -/
theorem test_snapshot_time : (sees .frameSnapshot repeater fun s => match s.ttx with
    | .sending x => x.ends
    | .silent => 0) = some (8 + 1096) := by decide +kernel
/-- R126, R106: no basis at the first epoch leaves a span UNKNOWN at score 0. -/
theorem test_first_epoch : sees .judgementEpoch repeater (fun s => (s.now, s.flt.spans.map SpanEntry.verdict)) =
    some (3000, [.unknown, .unknown]) := by decide +kernel
theorem test_probe_epoch_retry : sees .probeEpochRetry { settled with pru := { settled.pru with scheduled := true } }
    (fun s => (s.pru.scheduled, s.pru.isIdle, s.pbc.driveRequests)) = some (false, false, [⟨0, false⟩]) := by decide +kernel
theorem test_round_epoch_retry : sees .roundEpochRetry
    { settled with pru := { settled.pru with round := some ⟨[], .waitingEpoch⟩ } } (fun s => s.pru.round) =
    some none := by decide +kernel
/-- R135: refused on a supervisory-pair amplifier. -/
theorem test_amp_isolation_refused : sees .ampIsolationRequest
    { settled with pbc := { settled.pbc with isolations := [.amp 1 .deficit] } }
    (fun s => (s.pbc.bypass, s.pbc.isolations)) = some ([false, false], []) := by decide +kernel
/-- R137, 8.6.1: refused to the last pump that feeds the supervisory pair. -/
theorem test_pump_isolation_refused : sees .pumpIsolationRequest
    { settled with pbc := { settled.pbc with isolations := [.pump 0] } }
    (fun s => s.pbc.pumps.map Pump.state) = some [.active] := by decide +kernel
theorem test_step : sees (.stepTimerExpiry 0) repeater (fun s => (s.now, s.pbc.pumps.map fun x => (x.applied, x.step))) =
    some (10, [(160, some 20)]) := by decide +kernel
/-- R152: an expiry while the pump is BUSY leaves the start pending. -/
theorem test_interval_busy : sees .probeIntervalExpiry repeater (fun s => (s.pru.scheduled, s.pru.interval)) =
    some (true, some 1200000) := by decide +kernel
theorem test_probe_drive : sees .probeDriveRequest starting
    (fun s => (s.pbc.pumps.map fun x => (x.state, x.applied, x.preProbe), s.pru.flag, s.markerNow)) =
    some ([(.probe, 370, some 420)], some 0, .probing) := by decide +kernel
/-- R155, R116: outputs that have not fallen give NO_RESPONSE, and one failed probe takes a CLEAR pump to 48, SUSPECT. -/
theorem test_window_no_response : sees .probeWindowExpiry probing
    (fun s => (s.flt.pumps.map fun e => (e.score, e.state, e.kind), s.pbc.restores.map RestoreRequest.pump, s.pru.isIdle)) =
    some ([(48, .suspect, .noResponse)], [0], true) := by decide +kernel
/-- R154: a refusal of a SCHEDULED probe leaves no start pending, one made pending by an interval expiry meanwhile included;
of a ROUND probe none is touched. -/
theorem test_refusal_leaves_no_pending_start :
    let refused := fun (source : ProbeSource) =>
      sees .probeDriveRequest
        { starting with pru := { starting.pru with state := .starting { probe with source := source }, scheduled := true }
                        pbc := { starting.pbc with pumps := repeater.pbc.pumps } }
        fun s => (s.pru.isIdle, s.pru.scheduled)
    refused .scheduled = some (true, false) ∧ refused .round = some (true, true) := by decide +kernel
/-- R157: nor does the abort by a collision; R155: a window that expires leaves it pending. -/
theorem test_collision_leaves_no_pending_start :
    let s := { probing with pru := { probing.pru with scheduled := true } }
    ((heard flagged s).pru.isIdle, (heard flagged s).pru.scheduled) = (true, false) ∧
    sees .probeWindowExpiry s (fun t => (t.pru.isIdle, t.pru.scheduled)) = some (true, true) := by decide +kernel
theorem test_restore : sees .restoreRequest { probing with pbc := { probing.pbc with restores := [⟨0, none⟩] } }
    (fun s => s.pbc.pumps) = some [⟨.active, 420, 420, false, none, none⟩] := by decide +kernel
theorem test_gap : sees .gapTimerExpiry
    { settled with pru := { settled.pru with gap := some 5000, round := some ⟨[0], .waitingGap⟩ } }
    (fun s => (s.now, s.pru.gap, s.pru.round)) = some (5000, none, some ⟨[], .none⟩) := by decide +kernel
theorem test_read_status : sees .readStatus terminal
    (fun s => s.tpt.response.map fun r => (r.status, r.payload.take 3, r.payload.length)) =
    some (some (.ok, [1, 0, 1], 7)) := by decide +kernel
theorem test_read_presence : sees (.readPresence 254) terminal (fun s => s.tpt.response) =
    some (some ⟨.ok, [254, 0, 0xFF, 0, 0, 0, 0, 0]⟩) := by decide +kernel
/-- R192: a VACANT record returns the head alone. -/
theorem test_read_observation : sees (.readObservation 2) terminal (fun s => s.tpt.response) =
    some (some ⟨.ok, [2, 1, 1, 0, 0, 0, 0, 0, 0]⟩) := by decide +kernel
theorem test_write_directive : sees (.writeDirective 2 255) terminal
    (fun s => (s.tpt.directive, s.tpt.idCounter, s.tpt.queue.map Record.change)) =
    some (some ⟨.restart, 255, 0⟩, 1, [.directive none ⟨.restart, 255, 0⟩]) := by decide +kernel
theorem test_clear_directive : sees .clearDirective
    { terminal with tpt := { terminal.tpt with directive := some ⟨.release, 40, 3⟩, idCounter := 4 } }
    (fun s => (s.tpt.directive, s.tpt.idCounter)) = some (none, 4) := by decide +kernel
theorem test_read_record_empty : sees (.readRecord 0) terminal (fun s => s.tpt.response) = some (some ⟨.ok, []⟩) := by
  decide +kernel
theorem test_advance_clamps : sees (.advance 255) ((after (.writeDirective 0 9) terminal).getD terminal)
    (fun s => (s.tpt.queue.length, s.tpt.response)) = some (0, some ⟨.ok, [0]⟩) := by decide +kernel
theorem test_clear_queue : sees .clearQueue ((after (.writeDirective 0 9) terminal).getD terminal)
    (fun s => (s.tpt.queue.length, s.tpt.recordTimer, s.tpt.directive)) =
    some (0, none, some ⟨.release, 9, 0⟩) := by decide +kernel
theorem test_bad_command : sees (.badCommand 9) terminal (fun s => s.tpt.response) = some (some ⟨.badCommand, []⟩) := by
  decide +kernel
theorem test_record_timer : sees .recordTimerExpiry ((after (.writeDirective 0 9) terminal).getD terminal)
    (fun s => (s.now, s.attention, s.tpt.absoluteTimer)) = some (1000, some true, none) := by decide +kernel
theorem test_absolute_timer : sees .absoluteTimerExpiry ((after (.writeDirective 0 9) terminal).getD terminal)
    (fun s => (s.now, s.tpt.causes.absoluteTimer)) = some (4000, true) := by decide +kernel

/-! ## States that meet the hypotheses of the statements, clause by clause

Each theorem `witness_<Name>` is about the statement `Obligations.<Name>`. -/

/-- A repeater at 37 with two pairs and two pumps: pump 0 feeds amplifiers 0 and 1, the supervisory pair, and pump 1 feeds 2
and 3, with remap OFF. -/
def twoPairRecord : List Word :=
  [0x9D33, 0x2522, 0x0178, 0x0103, 0xFFFF, 0xFFFF, 0xFFFF, 0xFFFF, 0xF060, 0xF448, 0xF830, 0x0064, 0x0032, 0x0064,
    0x0032, 0x00C8, 0x44F0, 0x1060, 0x080C, 0x01F4, 0x141E, 0x0258, 0x030A, 0x0008, 0x0A10, 0x07D0] ++
  [0x03E8, 0x07D0, 0x0FA0, 0x07D0, 0x03E8, 0x07D0, 0x0FA0, 0x07D0, 0x03E8, 0x07D0, 0x0FA0, 0x07D0, 0x03E8, 0x07D0,
    0x0FA0, 0x030A, 0x05A4, 0x0096, 0x0258, 0x0032, 0x0C0A, 0x85A4, 0x0096, 0x0258, 0x0032, 0xAC3A]

def twoPair : State := (sampled .repeater twoPairRecord).declare (level (-1500) 500)

theorem test_two_pair_passes : onesSum twoPairRecord = 0xFFFF ∧
    firstFailure (readCommissioning twoPairRecord) .repeater = none := by decide +kernel

theorem repeater_commissioned : repeater.commissioned := by unfold State.commissioned; decide +kernel

/-- A valid station reached through DECLARE_VALID meets every invariant. -/
theorem repeater_loaded : Loaded repeater :=
  ⟨by decide +kernel, by decide +kernel, by decide +kernel, fun _ => repeater_commissioned, by decide +kernel,
    fun h => absurd h (by decide +kernel)⟩

theorem repeater_sound : Shaped repeater ∧ MetersInRange repeater ∧ ScoresSound repeater ∧ SpanKindsSound repeater ∧
    MapsWhole repeater ∧ TrackersDistinct repeater ∧ RecordsFollow repeater ∧ OneProbe repeater ∧
    DemandsDistinct repeater ∧ MarkerCurrent repeater ∧ SupervisoryFed repeater ∧ QueueBounded repeater ∧
    LatchesAgree repeater ∧ CapturesEligible repeater := by
  have hx : repeater.ttx = .sending ⟨.nominal, none, 8, false⟩ := by decide +kernel
  have he : ∀ t ∈ repeater.rbe.trackers ++ repeater.rbw.trackers, t.kind = some .capture → t.pos = none := by
    decide +kernel
  refine ⟨by unfold Shaped; decide +kernel, by unfold MetersInRange; decide +kernel,
    by unfold ScoresSound scoreSound; decide +kernel, by unfold SpanKindsSound; decide +kernel,
    by unfold MapsWhole; decide +kernel, by unfold TrackersDistinct RxBank.distinct Tracker.sound; decide +kernel,
    by unfold RecordsFollow; decide +kernel, by unfold OneProbe; decide +kernel,
    by unfold DemandsDistinct; decide +kernel, by unfold MarkerCurrent; rw [hx]; decide +kernel,
    by unfold SupervisoryFed State.fed; decide +kernel, by unfold QueueBounded; decide +kernel,
    by unfold LatchesAgree; decide +kernel, ?_⟩
  constructor <;> intro t ht hk q hq
  · rw [he t (by simp [ht]) hk] at hq; cases hq
  · rw [he t (by simp [ht]) hk] at hq; cases hq

/-- The repeater's one pump, and with it every station's that has the repeater's record and drives. -/
theorem repeater_pumps {P : Nat → Pump → Prop} (h0 : P 0 ⟨.active, 420, 150, false, none, some 10⟩) :
    ∀ j x, repeater.pbc.pumps[j]? = some x → P j x := by
  intro j x h
  have hp : repeater.pbc.pumps = [⟨.active, 420, 150, false, none, some 10⟩] := by decide +kernel
  rw [hp] at h
  match j with
  | 0 => cases h; exact h0
  | j + 1 => simp at h

theorem pumps_like_repeater {s : State} (hp : s.pbc = repeater.pbc) (hc : s.cfl = repeater.cfl) : PumpsSound s := by
  unfold PumpsSound State.cfg; rw [hp, hc]
  exact repeater_pumps (by unfold pumpSound; decide +kernel)

theorem targets_like_repeater {s : State} (hp : s.pbc = repeater.pbc) (hc : s.cfl = repeater.cfl) : TargetsCurrent s := by
  unfold TargetsCurrent State.cfg; rw [hp, hc]
  exact repeater_pumps (by decide +kernel)

theorem witness_EveryStepKeepsThePumpsSound : Loaded repeater ∧ PumpsSound repeater ∧ TargetsCurrent repeater :=
  ⟨repeater_loaded, pumps_like_repeater rfl rfl, targets_like_repeater rfl rfl⟩

theorem terminal_loaded : Loaded terminal :=
  ⟨by decide +kernel, by decide +kernel, by decide +kernel,
    fun _ => by unfold State.commissioned; decide +kernel, by decide +kernel, fun h => absurd h (by decide +kernel)⟩

/-- Every step has an outcome, so an invariant's step exists at the station. -/
theorem witness_invariants : ∃ t, step { repeater with pending := [.judgementEpoch] } = .next t := ⟨_, rfl⟩

/-! ### The load -/

def clockAt (x : Nat) : State := { repeater with cfl := { repeater.cfl with clock := x } }

theorem witness_LoadBeginStartsTheClock : State.reset.cfl.resetHeld = true ∧
    ((clockAt (2 ^ 32 - 2)).cfl.resetHeld = false ∧ (clockAt (2 ^ 32 - 2)).cfl.clock < 2 ^ 32 - 1) ∧
    (clockAt (2 ^ 32 - 1)).cfl.clock = 2 ^ 32 - 1 := by decide +kernel

theorem witness_HeaderIsJudgedBeforeTheBody : (loading .readingHeader []).cfl.resetHeld = false ∧
    (loading .readingHeader []).cfl.phase = .readingHeader ∧ (0x9C : Byte) ≠ 0x9D ∧ (23 : Byte).toNat < 24 ∧
    120 < (121 : Byte).toNat ∧ 24 ≤ (24 : Byte).toNat ∧ (120 : Byte).toNat ≤ 120 ∧
    ([0x9D] : List Byte).length < 2 ∧
    (let s := loading .readingBody [0x9D26]
     s.cfl.strap = .repeater ∧ s.cfl.image = [0x9D26] ∧ 2 * ((0x9D26 : Word).toNat % 256) = 76 ∧
       (body repeaterRecord).length = 76 ∧ ((body repeaterRecord).take 75).length < 76) ∧
    (BusSymbol.sent 0xAC).wires[2]? = some ⟨.low, .high⟩ ∧ (BusSymbol.sent 0xAC).wires[3]? = some ⟨.low, .low⟩ := by
  decide +kernel

theorem witness_UnansweredReadsEndAbsent : (loading .readingHeader []).cfl.resetHeld = false ∧
    (loading .readingHeader []).cfl.phase = .readingHeader ∧
    (loading .readingBody [0x9D26]).cfl.phase = .readingBody := by decide +kernel

/-- A body of zeros breaks the sum; the record's own body passes it. -/
theorem witness_ChecksumMustBeAllOnes : (loading .readingBody [0x9D26]).cfl.image = [0x9D26] ∧
    (loading .readingBody [0x9D26]).cfl.strap = .repeater ∧
    (body repeaterRecord).length = 2 * ((0x9D26 : Word).toNat % 256) ∧
    (List.replicate 76 (0 : Byte)).length = 2 * ((0x9D26 : Word).toNat % 256) ∧
    onesSum (0x9D26 :: wordsOf (body repeaterRecord)) = 0xFFFF ∧
    onesSum (0x9D26 :: wordsOf (List.replicate 76 0)) ≠ 0xFFFF := by decide +kernel

/-- A record that holds the words of the map; one that passes, one that fails its first check, and one (low-space threshold
65) that fails only its last. -/
theorem witness_SixteenChecksDecideARecord :
    ((body repeaterRecord)[0]? = some 0x25 ∧ (body repeaterRecord)[1]? = some 0x11 ∧
      25 + 8 * (0x2511 / 16 % 8) + 5 * (0x2511 % 8) < repeaterRecord.length ∧ repeaterRecord[1]? = some 0x2511) ∧
    (body repeaterRecord).length = 2 * ((0x9D26 : Word).toNat % 256) ∧
    firstFailure (readCommissioning repeaterRecord) .repeater = none ∧
    firstFailure (readCommissioning terminalRecord) .repeater = some 1 ∧
    firstFailure (readCommissioning (repeaterRecord.set 24 0x0A41)) .repeater = some 16 ∧
    onesSum ((repeaterRecord.set 24 0x0A41).set 38 0x8746) = 0xFFFF := by decide +kernel

/-! ### The declaration and the samples -/

theorem witness_DeclareTakesTheFirstSampleSet : (sampled .repeater repeaterRecord).cfl.resetHeld = false ∧
    (sampled .repeater repeaterRecord).cfl.phase = .sampling := by decide +kernel

theorem sampled_loaded : Loaded (sampled .repeater repeaterRecord) := by
  refine ⟨by decide +kernel, by decide +kernel, by decide +kernel,
    fun _ => by unfold State.commissioned; decide +kernel, by decide +kernel, ?_⟩
  unfold State.untouched; decide +kernel

/-- Both markers: a lit and a dark station, and what R95 names of a position whose neighbours are all on the line. -/
theorem witness_DeclareStartsThePumpsAndTheTable : Loaded (sampled .repeater repeaterRecord) ∧
    (sampled .repeater repeaterRecord).commissioned ∧
    repeater.lmu.cls? 1 = some .nominal ∧ unlit.lmu.cls? 1 = some .dark ∧
    (repeater.flt.quiet.map Quiet.pos = [36, 35, 38, 39] ∧ terminal.flt.quiet.map Quiet.pos = [2, 3]) :=
  ⟨sampled_loaded, by unfold State.commissioned; decide +kernel, by decide +kernel, by decide +kernel, by decide +kernel⟩

/-- A bank that is not outbound, and the outbound bank of a west terminal. -/
theorem witness_DeclareStartsTheBanks : (sampled .repeater repeaterRecord).cfg.role = .repeater ∧
    (sampled .terminal terminalRecord).cfg.role = .terminal ∧
    (sampled .terminal terminalRecord).cfg.position = (sampled .terminal terminalRecord).cfg.west := by decide +kernel

theorem witness_SampleSetSmoothsEveryMeter : repeater.lmu.epoch = some 100 ∧
    repeater.lmu.inputs[1]? = some (.tracking (-1500) (-1500) .nominal) ∧
    repeater.lmu.outputs[1]? = some (.tracking 500 500) ∧ repeater.lmu.inputs[2]? = some .outOfUse ∧
    repeater.lmu.outputs[7]? = some .outOfUse := by decide +kernel

/-- R7: rising by 1, falling by 1 and resting, at the smallest and at the largest shift. -/
theorem witness_SmoothingNeverOvershoots : smooth 1 0 1 = 1 ∧ smooth 6 0 (-1) = 0 ∧ smooth 6 3000 3000 = 3000 := by
  decide +kernel

/-- The repeater with its inputs smoothed to `v` and classed `cls`. -/
def inputsAt (v : Int) (cls : LightClass) (s : State) : State :=
  { s with lmu := { s.lmu with inputs := s.lmu.inputs.map fun m => match m with
                                 | .tracking r _ _ => .tracking r v cls
                                 | x => x } }

/-- A fall, a rise and a hold at the thresholds: with shift 3, a reading 8 above the value moves it by 1. -/
theorem witness_ClassFallsAtOnceAndRisesWithHysteresis :
    (repeater.lmu.epoch = some 100 ∧ repeater.cfg.td < repeater.cfg.tf ∧ repeater.cfg.tf < repeater.cfg.tl) ∧
    sees (.sampleSet (level (-3008) 0)) (inputsAt (-3000) .low repeater) (fun s => s.lmu.cls? 0) = some (some .faint) ∧
    sees (.sampleSet (level (-2943) 0)) (inputsAt (-2951) .faint repeater) (fun s => s.lmu.cls? 0) = some (some .low) ∧
    sees (.sampleSet (level (-2951) 0)) (inputsAt (-2951) .faint repeater) (fun s => s.lmu.cls? 0) =
      some (some .faint) := by decide +kernel

/-- The bank of the E direction in a given state, its input FAINT and about to become DARK, or DARK and about to leave it. -/
def watching (b : BankState) (v : Int) (cls : LightClass) : State :=
  inputsAt v cls { repeater with rbe := { repeater.rbe with state := b } }

theorem witness_ClassChangesReachTheTableAndTheBanks :
    sees (.sampleSet (level (-7000) 0)) (watching .running (-4000) .faint) (fun s => (s.lmu.cls? 0, s.rbe.state)) =
      some (some .dark, .darkWatch) ∧
    sees (.sampleSet (level (-7000) 0)) (watching .wakePending (-4000) .faint) (fun s => (s.lmu.cls? 0, s.rbe.state)) =
      some (some .dark, .darkWatch) ∧
    sees (.sampleSet (level 3000 0)) (watching .darkWatch (-4000) .dark) (fun s => (s.lmu.cls? 0, s.rbe.confirm)) =
      some (some .faint, some 2100) ∧
    sees (.sampleSet (level (-1500) 0)) repeater (fun s => (s.lmu.cls? 0, s.rbe.state)) =
      some (some .nominal, .running) ∧
    sees (.sampleSet (level (-7000) 0)) (watching .idle (-4000) .faint) (fun s => s.rbe.state) = some .idle := by
  decide +kernel

/-! ### Banks, trackers and frames -/

theorem witness_ConfirmedWakeResumesTheSweep :
    let s := { unlit with rbe := { unlit.rbe with state := .wakePending, confirm := some 2000 } }
    (s.bank .e).state = .wakePending ∧ (s.bank .e).confirm = some 2000 := by decide +kernel

/-- Just below the threshold, at it with a tie for the first marker, and a largest depth alone. -/
theorem witness_ObservedClassIsTheDeepestMarker : observedClass ⟨499, 499, 499, 499⟩ = .silent ∧
    observedClass ⟨500, 500, 500, 500⟩ = .isolated ∧ observedClass ⟨0, 501, 500, 500⟩ = .nominal ∧
    observedClass ⟨0, 0, 500, 500⟩ = .alarm := by decide +kernel

/-- The repeater whose RBE dwells on `q`, with that entry's pending class ALARM. -/
def dwelling (q : Nat) : State :=
  { repeater with
    rbe := { repeater.rbe with
             dwell := some ⟨q, 700⟩
             map := repeater.rbe.map.map fun e => if e.pos = q then { e with pending := some .alarm } else e } }

/-- A dwell in mid sweep that confirms a change, one that does not, and the last of a sweep. -/
theorem witness_DwellUpdatesTheMapAndTheSweep :
    (((dwelling 10).bank .e).state = .running ∧ ((dwelling 10).bank .e).dwell = some ⟨10, 700⟩ ∧
      observedClass ⟨0, 0, 0, 500⟩ = .alarm ∧
      findEntry ((dwelling 10).bank .e).map 10 = some ⟨10, .silent, some .alarm, 0, false⟩) ∧
    observedClass ⟨0, 500, 0, 0⟩ = .nominal ∧ (dwelling 36).cfg.position = 36 + 1 := by decide +kernel

/-- Station 10 captured, and found SILENT a second time. -/
def releasing : State :=
  let s := (after (.dwellComplete .e ⟨0, 0, 0, 500⟩) (dwelling 10)).getD repeater
  { s with
    rbe := { s.rbe with
             dwell := some ⟨10, 9000⟩
             map := s.rbe.map.map fun e => if e.pos = 10 then { e with pending := some .silent } else e } }

theorem witness_CapturesAreTheNearestEligible : ((dwelling 10).bank .e).state = .running ∧
    ((dwelling 10).bank .e).dwell = some ⟨10, 700⟩ ∧
    ((dwelling 10).bank .e).map.map MapEntry.pos = sidePositions (dwelling 10).cfg.position .e ∧
    ((dwelling 10).bank .e).distinct (dwelling 10).cfg.position .e ∧
    ((dwelling 10).bank .e).capturesEligible (dwelling 10).cfg ∧
    findEntry ((dwelling 10).bank .e).map 10 = some ⟨10, .silent, some .alarm, 0, false⟩ ∧
    sees (.dwellComplete .e ⟨0, 0, 0, 500⟩) (dwelling 10) (fun s => (s.rbe.trackers[3]?).bind Tracker.pos) =
      some (some 10) ∧
    findRecord (dwelling 10).records 10 = none ∧ PumpsSound (dwelling 10) ∧ TargetsCurrent (dwelling 10) ∧
    sees (.dwellComplete .e ⟨0, 0, 0, 0⟩) releasing (fun s => (s.rbe.trackers[3]?.bind Tracker.pos, findRecord s.records 10)) =
      some (none, none) ∧ (findRecord releasing.records 10).isSome = true := by
  have hc : ∀ t ∈ ((dwelling 10).bank .e).trackers, t.kind = some .capture → t.pos = none := by decide +kernel
  refine ⟨by decide +kernel, by decide +kernel, by decide +kernel, ?_, ?_, by decide +kernel, by decide +kernel,
    by decide +kernel, pumps_like_repeater rfl rfl, targets_like_repeater rfl rfl, by decide +kernel, by decide +kernel⟩
  · unfold RxBank.distinct Tracker.sound; decide +kernel
  · intro t ht hk q hq; rw [hc t ht hk] at hq; cases hq

/-- T0 of RBE changed by `g`. -/
def withT0 (g : Tracker → Tracker) : State := repeater.onTracker .e 0 g
def lockedWith (failed : Nat) (reception : Reception) (t : Tracker) : Tracker :=
  { t with state := .locked, failed := failed, sync := some 9000, reception := reception }

theorem witness_TrackersFollowTheSync :
    (repeater.rbe.trackers[0]? = some ⟨some .pinned, .acquiring, some 36, 0, none, .hunting, []⟩ ∧
      repeater.rbe.state = .running ∧ ((true :: syncPattern).drop 1).take 16 = syncPattern ∧
      (true :: syncPattern).take 16 ≠ syncPattern) ∧
    (withT0 (lockedWith 1 .expecting)).rbe.trackers[0]? =
      some ⟨some .pinned, .locked, some 36, 1, some 9000, .expecting, []⟩ ∧
    (withT0 (lockedWith 2 .expecting)).rbe.trackers[0]? =
      some ⟨some .pinned, .locked, some 36, 2, some 9000, .expecting, []⟩ ∧
    (List.replicate 16 true).length = 16 ∧ List.replicate 16 true ≠ syncPattern := by decide +kernel

/-- An ACQUIRING and a LOCKED tracker reading, with one failure to go and with none; a frame that fails its CRC, one of
another origin and one out of range; and a bank in DARK_WATCH. -/
theorem witness_RefusedFramesOnlyMoveTheTracker :
    ((reading repeater).rbe.trackers[0]? = some ⟨some .pinned, .acquiring, some 36, 0, none, .reading, []⟩ ∧
      (withT0 (lockedWith 1 .reading)).rbe.trackers[0]? =
        some ⟨some .pinned, .locked, some 36, 1, some 9000, .reading, []⟩ ∧
      (withT0 (lockedWith 2 .reading)).rbe.trackers[0]? =
        some ⟨some .pinned, .locked, some 36, 2, some 9000, .reading, []⟩) ∧
    crcPasses (true :: (afterSyncBits neighbour).tail) = false ∧
    (readFrame (afterSyncBits { neighbour with origin := 35 })).origin ≠ 36 ∧
    (readFrame (afterSyncBits
      { neighbour with amps := neighbour.amps.map fun a => { a with sIn := -6001 } })).amps.any
        (fun a => decide (a.sIn < -6000)) = true ∧
    (reading unlit).rbe.state = .darkWatch := by decide +kernel

/-- A frame without a directive and one with. -/
theorem witness_AcceptedFrameReplacesTheRecord : (reading repeater).rbe.trackers[0]? =
      some ⟨some .pinned, .acquiring, some 36, 0, none, .reading, []⟩ ∧ (reading repeater).rbe.state = .running ∧
    acceptFrame 36 (afterSyncBits neighbour) = some neighbour ∧ neighbour.directive = none ∧
    (let f : Frame := { neighbour with directive := some ⟨.restart, 37, 0⟩ }
     acceptFrame 36 (afterSyncBits f) = some f ∧
       standing ((reading repeater).received .e 0 (afterSyncBits f) f).records 36 = .fresh) ∧
    findRecord (reading repeater).records 36 = some ⟨36, .e, .vacant, 0, 0, none⟩ := by decide +kernel

theorem witness_AcceptedFrameReachesTheUsers : acceptFrame 36 (afterSyncBits flagged) = some flagged ∧
    (reading probing).pru.state = .probing probe 3000 ∧ (36 = probing.cfg.position - 1 ∧ 36 < probing.cfg.position) ∧
    acceptFrame 36 (afterSyncBits bypassing) = some bypassing ∧
    ((reading repeater).received .e 0 (afterSyncBits bypassing) bypassing).pbc.demands =
      [⟨0, .upstreamBypassed⟩, ⟨1, .downstreamBypassed⟩] ∧
    demandPos repeater.cfg.position 0 .upstreamBypassed = 36 ∧ (reading repeater).pru.state = .idle ∧
    findRecord (reading probing).records 36 = some ⟨36, .e, .vacant, 0, 0, none⟩ := by decide +kernel

/-- T2 of RBE, which listens to the west terminal, and T2 of RBW, which listens to the east one, reading; the filter's
entries as given. -/
def directed (west east : FilterEntry) : State :=
  { (repeater.onTracker .e 2 fun t => { t with reception := .reading }).onTracker .w 2
      (fun t => { t with reception := .reading }) with filter := ⟨west, east⟩ }
def directive (origin : Nat) (d : Directive) : Frame := { neighbour with origin := origin, directive := some d }

/-- From the west: adopted, executed and repeated; from the east, to another station; from an origin that is not
authorised. -/
theorem witness_FilterDecidesByOriginModeAndId :
    (repeater.cfg.west = 1 ∧ repeater.cfg.east = 120) ∧
    (directed ⟨.settled, some 3⟩ ⟨.adopt, none⟩).rbe.trackers[2]? =
      some ⟨some .pinned, .acquiring, some 1, 0, none, .reading, []⟩ ∧
    (directed ⟨.settled, some 3⟩ ⟨.adopt, none⟩).rbw.trackers[2]? =
      some ⟨some .pinned, .acquiring, some 120, 0, none, .reading, []⟩ ∧
    acceptFrame 1 (afterSyncBits (directive 1 ⟨.release, 255, 4⟩)) = some (directive 1 ⟨.release, 255, 4⟩) ∧
    acceptFrame 120 (afterSyncBits (directive 120 ⟨.restart, 37, 0⟩)) = some (directive 120 ⟨.restart, 37, 0⟩) ∧
    acceptFrame 36 (afterSyncBits (directive 36 ⟨.restart, 37, 0⟩)) = some (directive 36 ⟨.restart, 37, 0⟩) ∧
    (sees (.frameChecked .e 2 (afterSyncBits (directive 1 ⟨.release, 255, 4⟩)))
      (directed ⟨.settled, some 3⟩ ⟨.adopt, none⟩) fun s => s.filter.west) = some ⟨.settled, some 4⟩ := by decide +kernel

/-- A frame without a directive and one with, each as long as its counts ask. -/
theorem witness_AcceptedBitsAreTheFrameSent :
    neighbour.amps.length = 2 * neighbour.pairs ∧ neighbour.pumps.length = neighbour.pumpCount ∧
    neighbour.directive = none ∧ (directive 36 ⟨.restart, 37, 0⟩).directive = some ⟨.restart, 37, 0⟩ ∧
    (directive 36 ⟨.restart, 37, 0⟩).amps.length = 2 * (directive 36 ⟨.restart, 37, 0⟩).pairs := by decide +kernel

theorem frame_check_steps (s : State) (b : Bank) (k : Nat) (bits : List Bool) :
    ∃ t, step { s with pending := [.frameChecked b k bits] } = .next t := by
  show ∃ t, execFrameChecked b k bits { s with pending := [] } = .next t
  unfold execFrameChecked
  dsimp only
  repeat' split
  all_goals exact ⟨_, rfl⟩

theorem witness_FilterEntriesStaySettled :
    let s := { directed ⟨.settled, some 3⟩ ⟨.adopt, none⟩ with
               pending := [.frameChecked .e 2 (afterSyncBits (directive 1 ⟨.release, 255, 4⟩))] }
    (∃ t, step s = .next t) ∧ s.pending.head? ≠ some .coldStart ∧ s.filter.west.mode = .settled := by
  exact ⟨frame_check_steps _ _ _ _, fun h => (by cases h), by decide +kernel⟩

/-! ### Sending, and the Observation Table -/

theorem witness_SnapshotCarriesTheOwnersValues :
    (repeater.flt.spans.length = 2 * repeater.cfg.n ∧ repeater.flt.amps.length = 2 * repeater.cfg.n ∧
      repeater.flt.pumps.length = repeater.cfg.m ∧ repeater.pbc.pumps.length = repeater.cfg.m) ∧
    repeater.ttx = .sending ⟨.nominal, none, 8, false⟩ ∧ probing.ttx = .sending ⟨.probing, none, 8, false⟩ ∧
    probing.pru.state = .probing probe 3000 := by decide +kernel

/-- The four lines of R26, on the two-pair station; a pump that carries the tone and one that does not; the reference period
and the last bit of a frame; a line at hand-off, in-line and set; ATTN not driven, released and asserted. -/
theorem witness_AmplifierStateFollowsThePumps :
    Pbc.ampState { twoPair.pbc with bypass := [false, false, true, false] } twoPair.cfg 2 = .bypassed ∧
    Pbc.ampState { twoPair.pbc with pumps := twoPair.pbc.pumps.map fun x => { x with state := .floor } } twoPair.cfg 2 =
      .unpumped ∧
    Pbc.ampState { twoPair.pbc with demands := [⟨3, .upstreamBypassed⟩] } twoPair.cfg 2 = .compensating ∧
    twoPair.pbc.ampState twoPair.cfg 2 = .normal ∧
    (twoPair.driverPin 0 = .driven true 150 1500 ∧ twoPair.driverPin 1 = .driven true 150 0 ∧
      twoPair.driverPin 2 = .handOff) ∧
    twoPair.tone = some ⟨237000, false⟩ ∧
    (let s := (after .frameSnapshot repeater).getD repeater
     (State.tone { s with now := 1103 }) = some ⟨237000,
       (frameBits (repeater.snapshot .nominal)).countP (fun b => !b) % 2 == 1⟩) ∧
    (State.reset.bypassPin 0 = .handOff ∧ twoPair.bypassPin 2 = .inLine ∧
      State.bypassPin { twoPair with pbc := { twoPair.pbc with bypass := [false, false, true, false] } } 2 = .set) ∧
    repeater.attention = none ∧ terminal.attention = some false := by decide +kernel

/-- The repeater with a FRESH record of 36 at a given age. -/
def agedTo (n : Nat) : State :=
  { heard neighbour repeater with
    records := (heard neighbour repeater).records.map fun r => { r with age := if r.origin = 36 then n else 0 } }

/-- A FRESH record at the limit, one below it, and one whose age is about to saturate; targets that are current. -/
theorem witness_RecordsAgeAndGoStale :
    ((findRecord (agedTo 120).records 36).map Neighbour.age = some 120 ∧ 10 * repeater.cfg.stale < 120 + 1 ∧
      (findRecord (agedTo 119).records 36).map Neighbour.freshness = some .fresh ∧ ¬ 10 * repeater.cfg.stale < 119 + 1 ∧
      (findRecord (agedTo 65534).records 36).map Neighbour.age = some 65534) ∧
    PumpsSound (agedTo 120) ∧ TargetsCurrent (agedTo 120) :=
  have hp : (agedTo 120).pbc = repeater.pbc := by decide +kernel
  have hc : (agedTo 120).cfl = repeater.cfl := by decide +kernel
  ⟨by decide +kernel, pumps_like_repeater hp hc, targets_like_repeater hp hc⟩

/-! ### Evidence and judgement -/

/-- The repeater after a frame of 36, and one of 35, whose outputs are `near` and `far`. -/
def supplied (near far : FrameAmp → FrameAmp) : State :=
  { heard { neighbour with amps := neighbour.amps.map near } repeater with
    records := updateRecord 35 (Neighbour.replace 0 { neighbour with origin := 35, amps := neighbour.amps.map far })
      (heard { neighbour with amps := neighbour.amps.map near } repeater).records }

/-- Every basis; the three classes at their thresholds (a loss of 2100, 2099 and 2049 against a reference of 2000), a hold for
a dark input; and for an amplifier of gain 2000, GOOD, a deficit at its threshold, and a runaway. -/
theorem witness_EvidenceFollowsBasisAndHolds :
    ((supplied (fun e => { e with sOut := 600 }) id).basisOf 0 = .direct ∧
      ((supplied (fun e => { e with sOut := 600 }) id).spanResult 0).evidence = .bad ∧
      ((supplied (fun e => { e with sOut := 599 }) id).spanResult 0).evidence = .neutral ∧
      ((supplied (fun e => { e with sOut := 549 }) id).spanResult 0).evidence = .good) ∧
    ((supplied (fun e => { e with state := .bypassed }) id).basisOf 0 = .bridged ∧
      ((supplied (fun e => { e with state := .bypassed }) id).spanResult 0).evidence = .good) ∧
    (State.basisOf { supplied id id with records := (supplied id id).records.filter fun r => r.origin != 36 } 0 =
      .skipped) ∧
    (repeater.basisOf 0 = .none ∧ (repeater.spanResult 0).evidence = .held) ∧
    ((inputsAt (-4001) .dark (supplied id id)).spanResult 0).evidence = .held ∧
    (repeater.ampResult 0).evidence = .good ∧
    ((inputsAt (-1400) .nominal repeater).ampResult 0).kind = .deficit ∧
    (State.ampResult { repeater with flt := { repeater.flt with refs := repeater.flt.refs.map fun r =>
      { r with oref := 300 } } } 0).kind = .runaway := by decide +kernel

/-- An epoch due, with a span LOSS_OF_LIGHT, spans that are scored, an AMP entry latched and others that are not, and a group
wholly deficient. -/
def deficient : State :=
  { repeater with
    flt := { repeater.flt with
             amps := repeater.flt.amps.map fun e => { e with score := 20, state := .suspect, kind := .deficit } } }

theorem witness_EpochScoresAndRequests : repeater.flt.epoch = some 3000 ∧
    repeater.flt.spans.map SpanEntry.kind = [.none, .none] ∧ unlit.flt.spans.map SpanEntry.kind =
      [.lossOfLight, .lossOfLight] ∧
    (sees .judgementEpoch deficient fun s => s.flt.pumps.map fun e => (e.score, e.deficient)) = some [(1, true)] ∧
    repeater.flt.amps.map AmpEntry.latch = [false, false] ∧
    (deficient.flt.amps.map (AmpEntry.grant 0 .deficit)).map AmpEntry.latch = [true, true] ∧
    ((sees .judgementEpoch { deficient with pbc := settled.pbc } fun s =>
      (s.flt.amps.map AmpEntry.kind, s.pru.round, s.pbc.driveRequests)) =
      some ([.pumpAttributed, .pumpAttributed], some ⟨[], .none⟩, [⟨0, false⟩])) := by decide +kernel

/-- A FAULTY span with a basis, in a station with no partner record, and with one. -/
def broken (s : State) : State :=
  { s with flt := { s.flt with spans := s.flt.spans.map fun e =>
      { e with score := 96, state := .faulty, kind := .unpaired } } }

theorem witness_SpanKindsAreSettledInOrder :
    (sees .judgementEpoch (broken (supplied (fun e => { e with sOut := 600 }) id)) fun s =>
      s.flt.spans.map fun e => (e.state, e.kind, e.basis)) =
      some [(.faulty, .unpaired, .direct), (.faulty, .unpaired, .none)] ∧
    (broken (supplied id id)).flt.epoch = some 3000 ∧
    (sees .judgementEpoch
      (broken (supplied (fun e => { e with sOut := 600, span := .clear }) id)) fun s =>
      (s.flt.spans.map SpanEntry.kind).head?) = some (some .fibre) ∧
    (sees .judgementEpoch
      (broken (supplied (fun e => { e with sOut := 600, span := .fibre }) id)) fun s =>
      (s.flt.spans.map SpanEntry.kind).head?) = some (some .cable) := by decide +kernel

/-! ### Pumps and probes -/

/-- A request for a supervisory-pair amplifier; one for amplifier 3, its partner in the group of pump 1 bypassed, so that the
pump is remapped OFF; and one for amplifier 2, which leaves it ACTIVE. -/
def asking (rs : List IsolationRequest) (bypass : List Bool) : State :=
  { twoPair with pbc := { twoPair.pbc with isolations := rs, bypass := bypass } }

/-- A probe on pump 1 whose window has expired, the restore request still waiting, when half a second later the isolation requests
`rs` come. -/
def expired (rs : List IsolationRequest) (bypass : List Bool) : State :=
  let s := asking [] bypass
  let probing :=
    { s with pru := { s.pru with state := .probing ⟨1, .scheduled, [(2, 500), (3, 500)]⟩ 3000 }
             pbc :=
               { s.pbc with
                 pumps := s.pbc.pumps.modify 1 fun x =>
                   { x with state := .probe, preProbe := some x.applied, step := none } } }
  let t := (after .probeWindowExpiry probing).getD s
  { t with now := t.now + 500, pbc := { t.pbc with isolations := rs } }

/-- R141: an isolation, and a remap, taken before the restore start the settle times; a result given is noted in the request, and
can be taken back. -/
theorem test_late_end :
    let s := expired [.pump 1] [false, false, true, false]
    s.flt.settle = [none, none, some 6000, some 6000] ∧
    (sees .pumpIsolationRequest s fun t => (t.pbc.pumps.map Pump.state, t.flt.settle)) =
      some ([.active, .off], [none, none, some 6500, some 6500]) ∧
    (sees .ampIsolationRequest (expired [.amp 3 .deficit] [false, false, true, false]) fun t =>
      (t.pbc.pumps.map Pump.state, t.flt.settle)) = some ([.active, .off], [none, none, some 6500, some 6500]) ∧
    (s.pbc.givenResult 1).map (fun g => (g.before.probed, g.after.probed, g.after.score)) = some (false, true, 48) ∧
    (s.pbc.givenResult 1).map (fun g => ((s.reviewResult 1 g true).flt.pumps, (s.reviewResult 1 g false).flt.pumps)) =
      some (twoPair.flt.pumps, s.flt.pumps) := by decide +kernel

theorem expired_withdrawable : Withdrawable (expired [.pump 1] [false, false, true, false]) 1
    ⟨⟨0, .clear, .none, 0, false, false, false⟩, ⟨48, .suspect, .noResponse, 0, false, true, false⟩⟩ := by
  have hp : (expired [.pump 1] [false, false, true, false]).pru.state = .idle := by decide +kernel
  refine ⟨fun pr w h => ?_, by decide +kernel, [], [], by decide +kernel, fun r h => ?_⟩
  · rw [hp] at h; cases h
  · cases h

theorem witness_AmpIsolationIsGrantedOrRefused :
    (1 = twoPair.cfg.supAmp .w ∧ 3 ≠ twoPair.cfg.supAmp .e ∧ 3 ≠ twoPair.cfg.supAmp .w) ∧
    (asking [.amp 3 .deficit] [false, false, true, false]).pbc.bypass[3]? = some false ∧
    (asking [.amp 2 .deficit] [false, false, true, false]).pbc.bypass[2]? = some true ∧
    (sees .ampIsolationRequest (asking [.amp 3 .deficit] [false, false, true, false]) fun s =>
      (s.pbc.pumps.map Pump.state, s.pbc.bypass, s.markerNow)) =
      some ([.active, .off], [false, false, true, true], .isolated) ∧
    (sees .ampIsolationRequest (asking [.amp 2 .deficit] [false, false, false, false]) fun s =>
      s.pbc.pumps.map Pump.state) = some [.active, .active] := by decide +kernel

theorem witness_PumpIsolationIsGrantedOrRefused :
    (twoPair.pbc.pumps[1]?.map Pump.latch = some false ∧ twoPair.cfg.feeds 1 (twoPair.cfg.supAmp .e) = false ∧
      twoPair.cfg.feeds 1 (twoPair.cfg.supAmp .w) = false) ∧
    (sees .pumpIsolationRequest (asking [.pump 1] [false, false, false, false]) fun s =>
      s.pbc.pumps.map fun x => (x.state, x.latch)) = some [(.active, false), (.off, true)] ∧
    (twoPair.cfg.feeds 0 (twoPair.cfg.supAmp .e) = true ∧
      (sees .pumpIsolationRequest (asking [.pump 0] [false, false, false, false]) fun s =>
        s.pbc.pumps.map Pump.state) = some [.active, .active]) := by decide +kernel

theorem witness_StepMovesTowardTheTarget : repeater.pbc.pumps[0]? = some ⟨.active, 420, 150, false, none, some 10⟩ ∧
    (sees (.stepTimerExpiry 0)
      { repeater with pbc := { repeater.pbc with pumps := [⟨.active, 420, 425, false, none, some 10⟩] } }
      fun s => s.pbc.pumps) = some [⟨.active, 420, 420, false, none, none⟩] := by decide +kernel

/-- A grant, a grant that meets a lower neighbour's flag, a refusal to a BUSY pump, and a request that a warm restart has
overtaken. -/
theorem witness_ProbeDriveIsAnswered :
    (starting.pru.state = .starting probe ∧ starting.pbc.driveRequests = [⟨0, false⟩] ∧
      starting.pbc.pumps = [⟨.active, 420, 420, false, none, none⟩] ∧
      probeFlag starting.records (starting.cfg.position - 1) = none) ∧
    probeFlag (heard flagged repeater).records 36 = some 0 ∧ repeater.cfg.position - 1 = 36 ∧
    (sees .probeDriveRequest { starting with records := (heard flagged repeater).records } fun s =>
      (s.pru, s.pbc.restores, s.flt.settle)) =
      some (⟨.idle, 0, some 600000, false, none, none⟩, [⟨0, none⟩], [some 3000, some 3000]) ∧
    repeater.pbc.pumps = [⟨.active, 420, 150, false, none, some 10⟩] ∧ repeater.pru.state = .idle := by decide +kernel

/-- A fall of Rmin at one member, and none; with L_S at 200, a NO_RESPONSE that leaves the entry CLEAR. -/
theorem witness_ProbeWindowGivesTheResult : probing.pru.state = .probing probe 3000 ∧ probing.cfg.rmin = 8 ∧
    (sees .probeWindowExpiry
      { probing with lmu := { probing.lmu with outputs := [.tracking 500 492, .tracking 500 500] } }
      fun s => s.flt.pumps.map fun e => (e.score, e.probed)) = some [(0, true)] ∧
    (sees .probeWindowExpiry
      { probing with lmu := { probing.lmu with outputs := [.tracking 500 493, .tracking 500 500] } }
      fun s => s.flt.pumps.map fun e => (e.score, e.probed)) = some [(48, true)] ∧
    (sees .probeWindowExpiry
      { probing with cfl := { probing.cfl with image := repeaterRecord.set 17 0xC8F0 } }
      fun s => s.flt.pumps.map fun e => (e.score, e.state, e.kind)) = some [(48, .clear, .noResponse)] := by decide +kernel

theorem witness_RestoreReturnsTheDrive :
    probing.pbc.pumps[0]? = some ⟨.probe, 420, 370, false, some 420, none⟩ ∧
    settled.pbc.pumps[0]? = some ⟨.active, 420, 420, false, none, none⟩ := by decide +kernel

/-- A pump that may start, one that is BUSY, and none that is eligible. -/
theorem witness_ScheduledStartsAreMadeOrDeferred :
    settled.pru.interval = some 600000 ∧ settled.pru.round = none ∧ settled.pru.scheduled = false ∧
    Eligible settled 0 ∧ Startable settled 0 ∧ ¬ Startable repeater 0 ∧
    ¬ Eligible { settled with pbc := { settled.pbc with bypass := [true, true] } } 0 := by
  refine ⟨by decide +kernel, by decide +kernel, by decide +kernel, ⟨⟨_, rfl, rfl⟩, 0, by decide +kernel, by decide +kernel⟩,
    ⟨?_, by decide +kernel, by decide +kernel, by decide +kernel⟩, ?_, ?_⟩
  · intro x hx
    have : settled.pbc.pumps[0]? = some ⟨.active, 420, 420, false, none, none⟩ := by decide +kernel
    rw [this] at hx; cases hx; rfl
  · intro h
    exact absurd (h.1 ⟨.active, 420, 150, false, none, some 10⟩ (by decide +kernel)) (by decide +kernel)
  · rintro ⟨-, a, hf, hb⟩
    have : ∀ a < 2, ([true, true] : List Bool)[a]? = some true := by decide +kernel
    have ha : a < 2 := by
      have h2 : ({ settled with pbc := { settled.pbc with bypass := [true, true] } } : State).cfg.ampCount = 2 := by
        decide +kernel
      unfold Commissioning.feeds at hf
      rw [h2] at hf
      simp at hf
      omega
    exact hb (this a ha)

theorem witness_RoundTakesItsTurns :
    (∃ r, ({ settled with pru := { settled.pru with round := some ⟨[0], .waitingEpoch⟩ } } : State).pru.round = some r ∧
      r.turn = .waitingEpoch) ∧
    settled.pru.round = none ∧ settled.pru.state = .idle ∧ probing.pru.round = none ∧ probing.pru.state ≠ .idle ∧
    (sees .gapTimerExpiry { settled with pru := { settled.pru with gap := some 5, round := some ⟨[], .waitingGap⟩ } }
      fun s => s.pru.round) = some none := by
  exact ⟨⟨_, rfl, rfl⟩, by decide +kernel⟩

/-! ### The port -/

theorem witness_ReadStatusReportsAndClears : terminal.cfl.resetHeld = false ∧ terminal.cfl.strap = .terminal := by
  decide +kernel

/-- A position with a map entry and one without; a record at index 0 and none at 1; the own position, a neighbour's and one
with no record. -/
theorem witness_TableReadsOnlyRespond :
    let s := (after (.writeDirective 0 9) terminal).getD terminal
    (s.cfl.resetHeld = false ∧ s.cfl.strap = .terminal ∧ s.cfl.valid = true) ∧
    (findEntry s.rbw.map 2).isSome = true ∧ findEntry s.rbw.map 255 = none ∧ s.tpt.queue.length = 1 ∧
    (findRecord s.records 2).isSome = true ∧ findRecord s.records 254 = none ∧ s.cfg.position = 1 ∧
    s.ttx = .sending ⟨.nominal, none, 8, false⟩ ∧
    (probing.ttx = .sending ⟨.probing, none, 8, false⟩ ∧ probing.pru.flag = some 0) ∧
    ((sees (.readObservation 36) { heard neighbour repeater with cfl := { repeater.cfl with strap := .terminal } }
      fun s => s.tpt.response.map fun r => (r.payload.drop 9).take 10) =
      some (some [0xFA, 0x24, 0x01, 0xF4, 3, 0, 7, 0, 0xFA, 0x24])) := by decide +kernel

/-- INVALID, a target of 0, and an accepted write at the counter's last id. -/
theorem witness_WriteDirectiveTakesANewId : Loaded terminal ∧ terminal.cfl.valid = true ∧
    (sampled .terminal terminalRecord).cfl.valid = false ∧
    (sees (.writeDirective 7 255) { terminal with tpt := { terminal.tpt with idCounter := 15 } }
      fun s => (s.tpt.directive, s.tpt.idCounter)) = some (some ⟨.unassigned, 255, 15⟩, 0) :=
  ⟨terminal_loaded, by decide +kernel, by decide +kernel, by decide +kernel⟩

theorem witness_QueueCommandsAndTimersAct :
    let s := (after (.writeDirective 0 9) terminal).getD terminal
    s.cfl.resetHeld = false ∧ s.cfl.strap = .terminal ∧ s.tpt.recordTimer = some 1000 ∧
      s.tpt.absoluteTimer = some 4000 ∧ s.tpt.response = some ⟨.ok, []⟩ ∧ [true].length < 8 ∧ 8 < (9 : Byte).toNat ∧
      repeater.cfl.strap ≠ .terminal ∧
      (let x : Spi := { (selected [false, false, false, false, false, false, false]).spi with
                        waiting := [⟨.high, .high, .low⟩] }
       s.pending = [] ∧ Spi.rest.pins.csn = .high ∧ x.pins.csn = .low ∧ x.bits.bind decodeBits = none ∧
         x.waiting = [⟨.high, .high, .low⟩] ∧
         (x.see true ⟨.high, .high, .low⟩).bits.bind decodeBits = some .readStatus) := by decide +kernel

/-- One free entry, and none. -/
theorem witness_OffersAreStoredOrDropped :
    let r : Record := ⟨2, .presence .silent .nominal, .info, 0, 0⟩
    (List.replicate 127 r).length < 128 ∧ 128 ≤ (List.replicate 128 r).length ∧
    (({ Tpt.cold with queue := List.replicate 128 r } : Tpt).offer terminal.cfg 0 0 2 (.presence .nominal .silent)).overrun =
      1 := by decide +kernel

/-- Reset is a state in which no command but the first two is due. -/
theorem witness_CommandsNotDueChangeNothing :
    State.reset.pending = [] ∧ State.reset.spi.waiting = [] ∧ State.reset.cfl.resetHeld = true ∧ repeater.cfl.resetHeld = false ∧
    State.reset.lmu.epoch = none ∧ State.reset.ttx = .silent ∧ State.reset.flt.epoch = none ∧
    State.reset.pru.scheduled = false ∧ State.reset.pru.round = none ∧ State.reset.pbc.isolations = [] ∧
    State.reset.pbc.pumps[0]?.bind Pump.step = none ∧ State.reset.pru.interval = none ∧
    State.reset.pbc.driveRequests = [] ∧ State.reset.pru.state = .idle ∧ State.reset.pbc.restores = [] ∧
    State.reset.pru.gap = none ∧ State.reset.tpt.recordTimer = none ∧ State.reset.tpt.absoluteTimer = none ∧
    repeater.cfl.strap ≠ .terminal ∧ repeater.rbe.trackers[6]? = none ∧
    repeater.rbe.trackers[5]? = some ⟨some .capture, .idle, none, 0, none, .hunting, []⟩ ∧
    findRecord repeater.records 40 = none := by decide +kernel

/-! ### Directives executed -/

/-- A station with an amplifier bypassed and a pump OFF by isolation, its latches in agreement. -/
def isolated : State :=
  (after .pumpIsolationRequest (asking [.pump 1] [false, false, false, false])).getD twoPair

theorem witness_ReleaseUndoesEveryIsolation : LatchesAgree isolated ∧
    isolated.pbc.pumps.map Pump.state = [.active, .off] ∧
    (isolated.execute .release).pbc.pumps.map Pump.state = [.active, .active] ∧
    (State.execute { isolated with cfl := { isolated.cfl with image := twoPairRecord.set 47 0x81A4 } } .release).pbc.pumps =
      [⟨.active, 420, 150, false, none, some 10⟩, ⟨.active, 420, 420, false, none, none⟩] := by
  unfold LatchesAgree; decide +kernel

/-- Every basis has a record behind it, and a dark span keeps its entry. -/
theorem witness_RereferenceRenewsTheReferences :
    (supplied id id).basisOf 0 = .direct ∧ ((supplied id id).execute .rereference).flt.refs.map References.lref =
      [2000, 2000] ∧
    (unlit.execute .rereference).flt.spans.map SpanEntry.kind = [.lossOfLight, .lossOfLight] := by decide +kernel

/-- T2 of each bank reads a RESTART, which the filter passes, and T0 of RBE another frame, when the west terminal's comes. -/
def restarting : State := reading (directed ⟨.settled, some 3⟩ ⟨.settled, some 5⟩)
def restartOf (origin id : Nat) : List Bool := afterSyncBits (directive origin ⟨.restart, 255, id⟩)
def restartedOnce : State := (after (.frameChecked .e 2 (restartOf 1 4)) restarting).getD restarting

/-- R64's two outcomes of the second RESTART: the station restarts again at once, its id recorded, or it is abandoned. -/
theorem test_second_restart :
    let second := restartedOnce.takeSecond .w 2 (restartOf 120 6) (directive 120 ⟨.restart, 255, 6⟩)
    restartedOnce.filter = ⟨⟨.settled, some 4⟩, ⟨.settled, some 5⟩⟩ ∧
    ((second true).filter.east, (second true).rbe.sweep) = (⟨.settled, some 6⟩, restarting.rbe.sweep + 2) ∧
    ((second false).filter.east, (second false).rbe.sweep) = (⟨.settled, some 5⟩, restarting.rbe.sweep + 1) := by
  decide +kernel

/-- R34, R53: the second RESTART's bank has gone dark since, and its frame is discarded. -/
theorem test_second_restart_in_the_dark :
    let dark := restartedOnce.setBank .w { restartedOnce.rbw with state := .darkWatch }
    restartedOnce.cutAt .w 2 = some [] ∧ after (.frameChecked .w 2 (restartOf 120 6)) dark = some dark := by decide +kernel

theorem witness_RestartKeepsAndResets :
    ((heard neighbour repeater).execute .restart).records.map Neighbour.freshness =
      [.vacant, .vacant, .vacant, .vacant, .vacant, .vacant] ∧
    (isolated.execute .restart).flt.pumps.map PumpEntry.state = [.clear, .faulty] ∧
    (unlit.execute .restart).rbe.state = .darkWatch ∧
    probing.pru.state = .probing probe 3000 ∧
    ((probing.execute .restart).pbc.pumps, (probing.execute .restart).flt.settle) =
      ([⟨.active, 420, 420, false, none, none⟩], [some 3000, some 3000]) ∧
    (starting.execute .restart).pbc.driveRequests = [⟨0, true⟩] ∧
    restartedOnce.restarted.map Restarted.cut = some [⟨.e, 0, []⟩, ⟨.w, 2, []⟩] ∧
    (restarting.cfg.west ≠ restarting.cfg.east ∧ restarting.rbw.state = .running) ∧
    (restartedOnce.bank .w).state = .running ∧
    acceptFrame 120 (restartOf 120 6) = some (directive 120 ⟨.restart, 255, 6⟩) ∧
    acceptFrame 36 (afterSyncBits neighbour) = some neighbour ∧ neighbour.directive = none := by decide +kernel

end Sys2Proof.Tests
end

