-- ==== Sys2Proof/Proofs/LightClasses.lean ====
section
/-! The light classes (R10, R11): what a sample set leaves in an input meter, and what its class is next to the thresholds. -/

namespace Sys2Proof.Machine

/-! ### A sample set, meter by meter -/

theorem exec_sampleSet (raw : Readings) {s : State} {d : Moment} (h : s.lmu.epoch = some d) :
    ∃ t, exec (.sampleSet raw) s = .next t ∧
      t.lmu = { s.lmu.sampleSet s.cfg raw with epoch := some (d + Config.sampleEpoch) } := by
  simp [exec, execSampleSet, h]

theorem Lmu.sampleSet_inputs_getElem? (c : Commissioning) (raw : Readings) (l : Lmu) {a : Nat} (ha : a < 8) :
    (l.sampleSet c raw).inputs[a]? = l.inputs[a]?.map (InputMeter.sample c raw.input[a]) := by
  cases h : l.inputs[a]? <;> simp [Lmu.sampleSet, List.getElem?_zipWith, h, ha]

/-! ### Thresholds -/

/-- The lower threshold of a class; DARK has none (R10). -/
def Commissioning.lower (c : Commissioning) : LightClass → Option Int
  | .dark => none
  | .faint => some c.td
  | .low => some c.tf
  | .nominal => some c.tl

/-- The smoothed value `v` is below the lower threshold of the class `cls` (R11, case 1). -/
def MustFall (c : Commissioning) (v : Int) (cls : LightClass) : Prop := ∃ θ, c.lower cls = some θ ∧ v < θ

/-- A rise from `cls` to the class `x` is open at the smoothed value `v` (R11, case 2). -/
def CanRise (c : Commissioning) (v : Int) (cls x : LightClass) : Prop :=
  cls.rank < x.rank ∧ ∃ θ, c.lower x = some θ ∧ θ + Config.hysteresis ≤ v

theorem belowClass_iff (c : Commissioning) (v : Int) (x : LightClass) :
    belowClass c v x = true ↔ MustFall c v x := by
  cases x <;> simp [belowClass, MustFall, Commissioning.lower]

theorem classAt_reached (c : Commissioning) (v : Int) :
    classAt c v = .dark ∨ ∃ θ, c.lower (classAt c v) = some θ ∧ θ ≤ v := by
  unfold classAt
  split
  · exact .inr ⟨c.tl, rfl, ‹_›⟩
  split
  · exact .inr ⟨c.tf, rfl, ‹_›⟩
  split
  · exact .inr ⟨c.td, rfl, ‹_›⟩
  · exact .inl rfl

/-- No class that `v` reaches ranks above `classAt`, which tries the classes from the highest down (so R10's order of the
thresholds is not needed). -/
theorem rank_le_classAt {c : Commissioning} {v θ : Int} {x : LightClass}
    (hx : c.lower x = some θ) (hv : θ ≤ v) : x.rank ≤ (classAt c v).rank := by
  unfold classAt
  cases x <;> simp only [Commissioning.lower, Option.some.injEq, reduceCtorEq] at hx <;> subst hx
  case nominal => rw [if_pos hv]
  case low => rw [if_pos hv]; split <;> decide
  case faint => rw [if_pos hv]; split <;> [decide; (split <;> decide)]

theorem canRise_classAt {c : Commissioning} {v : Int} {cls : LightClass}
    (h : cls.rank < (classAt c (v - Config.hysteresis)).rank) :
    CanRise c v cls (classAt c (v - Config.hysteresis)) := by
  obtain hdark | ⟨θ, hθ, hv⟩ := classAt_reached c (v - Config.hysteresis)
  · rw [hdark] at h
    exact absurd h (Nat.not_lt_zero _)
  · exact ⟨h, θ, hθ, by omega⟩

theorem CanRise.rank_le {c : Commissioning} {v : Int} {cls x : LightClass} (h : CanRise c v cls x) :
    x.rank ≤ (classAt c (v - Config.hysteresis)).rank := by
  obtain ⟨-, θ, hθ, hv⟩ := h
  exact rank_le_classAt hθ (by omega)

/-! ### The three cases of R11 -/

theorem nextClass_fall {c : Commissioning} {v : Int} {cls : LightClass} (h : MustFall c v cls) :
    nextClass c v cls = classAt c v :=
  if_pos ((belowClass_iff c v cls).2 h)

theorem nextClass_rise {c : Commissioning} {v : Int} {cls : LightClass}
    (hnf : ¬ MustFall c v cls) (h : ∃ x, CanRise c v cls x) :
    cls.rank < (classAt c (v - Config.hysteresis)).rank ∧ nextClass c v cls = classAt c (v - Config.hysteresis) := by
  obtain ⟨x, hx⟩ := h
  have hlt := hx.1.trans_le hx.rank_le
  exact ⟨hlt, (if_neg (mt (belowClass_iff c v cls).1 hnf)).trans (if_pos hlt)⟩

theorem nextClass_hold {c : Commissioning} {v : Int} {cls : LightClass}
    (hnf : ¬ MustFall c v cls) (h : ¬ ∃ x, CanRise c v cls x) : nextClass c v cls = cls := by
  have hnlt : ¬ cls.rank < (classAt c (v - Config.hysteresis)).rank := fun hlt => h ⟨_, canRise_classAt hlt⟩
  exact (if_neg (mt (belowClass_iff c v cls).1 hnf)).trans (if_neg hnlt)

/-- Settles O15: the meter's new class is `nextClass` of its new smoothed value, and R11's cases are those of `nextClass`. -/
theorem classFallsAtOnceAndRisesWithHysteresis : Obligations.ClassFallsAtOnceAndRisesWithHysteresis := by
  intro raw d s a last old cls hepoch ha hmeter _ _ lower
  obtain ⟨t, hexec, hlmu⟩ := exec_sampleSet raw hepoch
  have hlower : lower = s.cfg.lower := by funext x; cases x <;> rfl
  have hnew := Lmu.sampleSet_inputs_getElem? s.cfg raw s.lmu ha
  rw [hmeter] at hnew
  refine ⟨t, _, _, _, hexec, by rw [hlmu]; exact hnew, ?_⟩
  rw [hlower]
  intro fall above
  refine ⟨fun hfall => ?fall, fun hnf hrise => ?rise, nextClass_hold⟩
  case fall =>
    rw [nextClass_fall hfall]
    exact ⟨classAt_reached _ _, fun _ _ => rank_le_classAt⟩
  case rise =>
    obtain ⟨hlt, hnext⟩ := nextClass_rise hnf hrise
    rw [hnext]
    exact ⟨canRise_classAt hlt, fun _ hx => CanRise.rank_le hx⟩

end Sys2Proof.Machine
end

section
/-! An accepted frame (R50, R54) and what the Directive Filter makes of its directive (R62). -/

namespace Sys2Proof.Machine

/-! ### An accepted frame (R50, R54) -/

theorem acceptFrame_origin {q : Nat} {bits : List Bool} {f : Frame} (h : acceptFrame q bits = some f) :
    f.origin = q := by
  unfold acceptFrame at h
  split at h
  case isTrue hpass =>
    cases h
    simp only [Bool.and_eq_true, beq_iff_eq] at hpass
    obtain ⟨⟨-, horigin⟩, -⟩ := hpass
    exact horigin
  case isFalse => cases h

@[simp] theorem State.received_filter (s : State) (b : Bank) (i : Nat) (stream : List Bool) (f : Frame) :
    (s.received b i stream f).filter = s.filter := by simp [State.received]
@[simp] theorem State.received_cfg (s : State) (b : Bank) (i : Nat) (stream : List Bool) (f : Frame) :
    (s.received b i stream f).cfg = s.cfg := by simp [State.received]

section
variable {s : State} {b : Bank} {i q : Nat} {k : Tracker} {bits : List Bool} {f : Frame}

theorem exec_frameChecked_accepted (hk : (s.bank b).trackers[i]? = some k) (hread : k.reception = .reading)
    (hpos : k.pos = some q) (hrun : (s.bank b).state = .running) (hf : acceptFrame q (k.ahead ++ bits) = some f) :
    exec (.frameChecked b i bits) s =
      .next ((s.onTracker b i (Tracker.lock s.now (afterFrame (k.ahead ++ bits)))).deliver f) := by
  simp [exec, execFrameChecked, Tracker.stream, hk, hread, hpos, hrun, hf]

theorem exec_frameChecked_of_no_directive (hk : (s.bank b).trackers[i]? = some k) (hread : k.reception = .reading)
    (hpos : k.pos = some q) (hrun : (s.bank b).state = .running) (hf : acceptFrame q (k.ahead ++ bits) = some f)
    (hd : f.directive = none) :
    exec (.frameChecked b i bits) s = .next (s.received b i (k.ahead ++ bits) f) := by
  simp [exec_frameChecked_accepted hk hread hpos hrun hf, State.deliver, State.received, hd]

theorem exec_frameChecked_of_directive (hk : (s.bank b).trackers[i]? = some k) (hread : k.reception = .reading)
    (hpos : k.pos = some q) (hrun : (s.bank b).state = .running) (hf : acceptFrame q (k.ahead ++ bits) = some f)
    {d : Directive} (hd : f.directive = some d) :
    exec (.frameChecked b i bits) s = .next ((s.received b i (k.ahead ++ bits) f).filterDirective q d) := by
  simp [exec_frameChecked_accepted hk hread hpos hrun hf, State.deliver, State.received, hd, acceptFrame_origin hf]

end

/-! ### The filter's table (R62) -/

theorem FilterEntry.passes_iff (own : Nat) (d : Directive) (e : FilterEntry) :
    e.passes own d = true ↔
      e.mode = .settled ∧ e.lastId ≠ some d.id ∧ d.kind ≠ .unassigned ∧ (d.target = own ∨ d.target = 255) := by
  simp [FilterEntry.passes, and_assoc]

theorem State.filterDirective_unauthorised {s : State} {origin : Nat} (d : Directive) (hw : origin ≠ s.cfg.west)
    (he : origin ≠ s.cfg.east) : s.filterDirective origin d = s := by
  simp [State.filterDirective, hw, he]

theorem State.filterDirective_west (s : State) (d : Directive) :
    s.filterDirective s.cfg.west d =
      if s.filter.west.passes s.cfg.position d then
        ({ s with filter := { s.filter with west := ⟨.settled, some d.id⟩ } } : State).execute d.kind
      else { s with filter := { s.filter with west := ⟨.settled, some d.id⟩ } } :=
  if_pos rfl

theorem State.filterDirective_east {s : State} (d : Directive) (hne : s.cfg.west ≠ s.cfg.east) :
    s.filterDirective s.cfg.east d =
      if s.filter.east.passes s.cfg.position d then
        ({ s with filter := { s.filter with east := ⟨.settled, some d.id⟩ } } : State).execute d.kind
      else { s with filter := { s.filter with east := ⟨.settled, some d.id⟩ } } :=
  (if_neg hne.symm).trans (if_pos rfl)

/-- Settles O25: the command hands the directive to `filterDirective` in the state `received`, whose filter and configuration
are those of `s`; the three origins are its three branches, and `passes_iff` is the condition of R62's table. -/
theorem filterDecidesByOriginModeAndId : Obligations.FilterDecidesByOriginModeAndId := by
  intro b i q k bits f s hk hread hpos hrun hf hne u executes
  have hfilter : u.filter = s.filter := State.received_filter ..
  have hcfg : u.cfg = s.cfg := State.received_cfg ..
  have hpasses (e : FilterEntry) (d : Directive) : e.passes s.cfg.position d = true ↔ executes e d :=
    FilterEntry.passes_iff ..
  refine ⟨hfilter, exec_frameChecked_of_no_directive hk hread hpos hrun hf, fun d hd => ?_⟩
  have hexec : exec (.frameChecked b i bits) s = .next (u.filterDirective q d) :=
    exec_frameChecked_of_directive hk hread hpos hrun hf hd
  rw [hexec]
  refine ⟨fun hw he => ?unauthorised, fun hw => ?west, fun he => ?east⟩
  case unauthorised => rw [State.filterDirective_unauthorised d (hcfg ▸ hw) (hcfg ▸ he)]
  case west =>
    have hdecides := State.filterDirective_west u d
    rw [hcfg, hfilter, ← hw] at hdecides
    rw [hdecides]
    exact ⟨fun hx => by rw [if_pos ((hpasses _ d).2 hx)], fun hx => by rw [if_neg (mt (hpasses _ d).1 hx)]⟩
  case east =>
    have hdecides := State.filterDirective_east (s := u) d (hcfg ▸ hne)
    rw [hcfg, hfilter, ← he] at hdecides
    rw [hdecides]
    exact ⟨fun hx => by rw [if_pos ((hpasses _ d).2 hx)], fun hx => by rw [if_neg (mt (hpasses _ d).1 hx)]⟩

end Sys2Proof.Machine
end

