-- ==== Sys2Proof/Proofs/Evidence.lean ====
section
/-! Span and amplifier evidence (R89 to R98) in the words of the rules: the bases, the holds and the thresholds. -/

namespace Sys2Proof.Machine

/-! ### What the helpers of the Observation Table answer (R80) -/

theorem standing_eq_fresh_iff (rs : List Neighbour) (q : Nat) :
    standing rs q = .fresh ↔ ∃ r, findRecord rs q = some r ∧ r.freshness = .fresh := by
  unfold standing
  cases findRecord rs q with
  | none => simp
  | some r => cases h : r.freshness <;> simp [Freshness.standing, h]

theorem standing_of_ampEntryAt {rs : List Neighbour} {q a i : Nat} {e : FrameAmp} (h : ampEntryAt rs q a i = some e) :
    standing rs q = .fresh := by
  unfold ampEntryAt freshContents at h
  rw [standing_eq_fresh_iff]
  cases hr : findRecord rs q with
  | none => simp [hr] at h
  | some r =>
    by_cases hf : r.freshness = .fresh
    · exact ⟨r, rfl, hf⟩
    · simp [hr, hf] at h

/-! ### The basis of a span (R90) -/

/-- The entry of position `q` for amplifier `a` is there and not BYPASSED. -/
def State.InLine (s : State) (q a : Nat) : Prop := ∃ e, ampEntryAt s.records q a a = some e ∧ e.state ≠ .bypassed

/-- The entry of position `q` for amplifier `a` is there and BYPASSED. -/
def State.OutOfLine (s : State) (q a : Nat) : Prop := ∃ e, ampEntryAt s.records q a a = some e ∧ e.state = .bypassed

theorem State.inLine_iff (s : State) (q a : Nat) :
    s.InLine q a ↔ (ampEntryAt s.records q a a).any notBypassed = true := by
  simp [State.InLine, Option.any_eq_true, notBypassed]

theorem State.outOfLine_iff (s : State) (q a : Nat) :
    s.OutOfLine q a ↔ (ampEntryAt s.records q a a).any (fun e => e.state == .bypassed) = true := by
  simp [State.OutOfLine, Option.any_eq_true]

theorem State.OutOfLine.not_inLine {s : State} {q a : Nat} (h : s.OutOfLine q a) : ¬ s.InLine q a := by
  rintro ⟨e, he, hin⟩
  obtain ⟨e', he', hout⟩ := h
  cases he.symm.trans he'
  exact hin hout

section
variable {s : State} {a : Nat}

open Classical in
/-- R90's table, a row for each line. -/
theorem State.basisOf_eq (s : State) (a : Nat) :
    s.basisOf a =
      if s.InLine (upstreamPos s.cfg.position a) a then .direct
      else if s.OutOfLine (upstreamPos s.cfg.position a) a ∧ s.InLine (upstream2Pos s.cfg.position a) a then .bridged
      else if standing s.records (upstreamPos s.cfg.position a) ≠ .fresh ∧ s.InLine (upstream2Pos s.cfg.position a) a then
        .skipped
      else .none := by
  simp only [State.basisOf, State.inLine_iff, State.outOfLine_iff, Bool.and_eq_true, bne_iff_ne]

theorem State.basisOf_direct (h : s.InLine (upstreamPos s.cfg.position a) a) : s.basisOf a = .direct := by
  rw [State.basisOf_eq, if_pos h]

theorem State.basisOf_bridged (hu : s.OutOfLine (upstreamPos s.cfg.position a) a)
    (hu2 : s.InLine (upstream2Pos s.cfg.position a) a) : s.basisOf a = .bridged := by
  rw [State.basisOf_eq, if_neg hu.not_inLine, if_pos ⟨hu, hu2⟩]

/-- Without a FRESH upstream record the first two rows fail, which need its entry. -/
theorem State.basisOf_skipped (hu : standing s.records (upstreamPos s.cfg.position a) ≠ .fresh)
    (hu2 : s.InLine (upstream2Pos s.cfg.position a) a) : s.basisOf a = .skipped := by
  have hin : ¬ s.InLine (upstreamPos s.cfg.position a) a := fun ⟨_, he, _⟩ => hu (standing_of_ampEntryAt he)
  have hout : ¬ s.OutOfLine (upstreamPos s.cfg.position a) a := fun ⟨_, he, _⟩ => hu (standing_of_ampEntryAt he)
  rw [State.basisOf_eq, if_neg hin, if_neg (hout ·.1), if_pos ⟨hu, hu2⟩]

theorem State.basisOf_none_of_not_inLine (hu : ¬ s.InLine (upstreamPos s.cfg.position a) a)
    (hu2 : ¬ s.InLine (upstream2Pos s.cfg.position a) a) : s.basisOf a = .none := by
  rw [State.basisOf_eq, if_neg hu, if_neg (hu2 ·.2), if_neg (hu2 ·.2)]

theorem State.basisOf_none_of_fresh (hu : standing s.records (upstreamPos s.cfg.position a) = .fresh)
    (hn : ampEntryAt s.records (upstreamPos s.cfg.position a) a a = none) : s.basisOf a = .none := by
  have hin : ¬ s.InLine (upstreamPos s.cfg.position a) a := by simp [State.InLine, hn]
  have hout : ¬ s.OutOfLine (upstreamPos s.cfg.position a) a := by simp [State.OutOfLine, hn]
  rw [State.basisOf_eq, if_neg hin, if_neg (hout ·.1), if_neg (·.1 hu)]

end

/-! ### Times and references (R87, R95, R99) -/

theorem isBefore_iff (now : Moment) (t : Timer) : isBefore now t = true ↔ ∃ y, t = some y ∧ now < y := by
  cases t <;> simp [isBefore]

theorem Flt.isBefore_quietAt_iff (f : Flt) (now : Moment) (q : Nat) :
    isBefore now (f.quietAt q) = true ↔
      ∃ x, (f.quiet.find? fun i => i.pos == q) = some x ∧ ∃ y, x.quietUntil = some y ∧ now < y := by
  rw [isBefore_iff, Flt.quietAt]
  cases f.quiet.find? fun i => i.pos == q <;> simp

theorem isBefore_settle_iff (now : Moment) (ts : List Timer) (a : Nat) :
    isBefore now (ts.getD a none) = true ↔ ∃ y, ts[a]? = some (some y) ∧ now < y := by
  rw [isBefore_iff, List.getD_eq_getElem?_getD]
  cases ts[a]? <;> simp

theorem Flt.refs?_eq {f : Flt} {a : Nat} {r : References} (h : f.refs[a]? = some r) : f.refs? a = r := by
  simp [Flt.refs?, h]

/-! ### Span evidence (R91, R93, R94) -/

section
variable {s : State} {a q : Nat}

theorem State.spanResult_held_of_basis_none (h : s.basisOf a = .none) : (s.spanResult a).evidence = .held := by
  simp [State.spanResult, State.spanHolds, h]

theorem State.basisOf_ne_none_of_supplier (hq : s.supplier a (s.basisOf a) = some q) : s.basisOf a ≠ .none := by
  intro h
  rw [h] at hq
  cases hq

/-- R94, where there is a basis. -/
theorem State.spanHolds_ne_nil_iff (hq : s.supplier a (s.basisOf a) = some q) :
    s.spanHolds a ≠ [] ↔ s.lmu.cls? a = some .dark ∨ probeFlag s.records q ≠ none ∨
      ∃ x, (s.flt.quiet.find? fun i => i.pos == q) = some x ∧ ∃ y, x.quietUntil = some y ∧ s.now < y := by
  rw [← Flt.isBefore_quietAt_iff, ← Option.isSome_iff_ne_none]
  simp only [State.spanHolds, hq, State.basisOf_ne_none_of_supplier hq, Lmu.isDark]
  by_cases hdark : s.lmu.cls? a = some .dark <;> by_cases hflag : (probeFlag s.records q).isSome <;>
    simp [hdark, hflag]

theorem State.spanResult_held (h : s.spanHolds a ≠ []) : (s.spanResult a).evidence = .held :=
  if_neg h

/-- R91 and R93: with a supplying entry and no hold, the excess decides. -/
theorem State.spanResult_classified {e : FrameAmp} {r : References} (hr : s.flt.refs[a]? = some r)
    (he : ampEntryAt s.records q a a = some e) (hq : s.supplier a (s.basisOf a) = some q) (hh : s.spanHolds a = []) :
    (s.spanResult a).evidence =
      classifyExcess s.cfg (max (-1000) (min 6000 (e.sOut - s.lmu.sIn a)) - r.lossRef (s.basisOf a)) := by
  have hexcess : s.excess a = some (max (-1000) (min 6000 (e.sOut - s.lmu.sIn a)) - r.lossRef (s.basisOf a)) := by
    simp [State.excess, State.spanLoss, State.lossFrom, hq, he, Flt.refs?_eq hr, clampTo, Config.lossMin, Config.lossMax]
  rw [State.spanResult, if_pos hh, hexcess]

end

section
variable {c : Commissioning} {x : Int}

theorem classifyExcess_bad (h : c.tsHi ≤ x) : classifyExcess c x = .bad := if_pos h

theorem classifyExcess_neutral (hlo : c.tsLo ≤ x) (hhi : x < c.tsHi) : classifyExcess c x = .neutral :=
  (if_neg (not_le.2 hhi)).trans (if_pos hlo)

theorem classifyExcess_good (hlo : x < c.tsLo) (hhi : x < c.tsHi) : classifyExcess c x = .good :=
  (if_neg (not_le.2 hhi)).trans (if_neg (not_le.2 hlo))

end

/-! ### Demand and redundancy increments (R26, R132) -/

theorem Pbc.demandCount_pos_iff (p : Pbc) (c : Commissioning) (j : Nat) :
    0 < p.demandCount c j ↔ ∃ d ∈ p.demands, c.feeds j d.amp = true :=
  List.countP_pos_iff

theorem Pbc.offOverlaps_pos_iff (p : Pbc) (c : Commissioning) (j : Nat) :
    0 < p.offOverlaps c j ↔
      ∃ i x, i ≠ j ∧ p.pumps[i]? = some x ∧ x.state = .off ∧ c.intersects i j = true := by
  simp only [Pbc.offOverlaps, List.countP_pos_iff, List.mem_range, Bool.and_eq_true, bne_iff_ne, Pbc.isIn_off,
    decide_eq_true_eq, Option.map_eq_some_iff]
  constructor
  · rintro ⟨i, -, ⟨hne, x, hx, hoff⟩, hi⟩
    exact ⟨i, x, hne, hx, hoff, hi⟩
  · rintro ⟨i, x, hne, hx, hoff, hi⟩
    exact ⟨i, (List.getElem?_eq_some_iff.1 hx).1, ⟨hne, x, hx, hoff⟩, hi⟩

theorem Pbc.incremented_iff (p : Pbc) (c : Commissioning) (j : Nat) :
    p.incremented c j = true ↔
      (∃ d ∈ p.demands, c.feeds j d.amp = true) ∨
        ∃ i x, i ≠ j ∧ p.pumps[i]? = some x ∧ x.state = .off ∧ c.intersects i j = true := by
  rw [← Pbc.demandCount_pos_iff, ← Pbc.offOverlaps_pos_iff]
  simp [Pbc.incremented]

/-- An increment applies to a pump whose group contains amplifier `a` (R97). -/
def State.Incremented (s : State) (a : Nat) : Prop :=
  ∃ j < s.pbc.pumps.length, s.cfg.feeds j a = true ∧
    ((∃ d ∈ s.pbc.demands, s.cfg.feeds j d.amp = true) ∨
      ∃ i x, i ≠ j ∧ s.pbc.pumps[i]? = some x ∧ x.state = .off ∧ s.cfg.intersects i j = true)

theorem State.unincremented_iff (s : State) (a : Nat) : s.unincremented a = true ↔ ¬ s.Incremented a := by
  simp only [State.Incremented, ← Pbc.incremented_iff]
  simp only [State.unincremented, Pbc.feeders, List.all_eq_true, List.mem_filter, List.mem_range,
    Bool.not_eq_true', and_imp, not_exists, not_and, Bool.not_eq_true]

/-! ### Amplifier evidence (R97, R98) -/

theorem Lmu.isLow_iff (l : Lmu) (a : Nat) : l.isLow a = true ↔ l.cls? a = some .dark ∨ l.cls? a = some .faint := by
  simp [Lmu.isLow]

theorem Pbc.bypassed_iff (p : Pbc) (a : Nat) : p.bypassed a = true ↔ p.bypass[a]? = some true := by
  rw [Pbc.bypassed, List.getD_eq_getElem?_getD]
  cases p.bypass[a]? <;> simp

theorem Pru.flag_any_iff (p : Pru) (f : Nat → Bool) :
    p.flag.any f = true ↔ ∃ pr w, p.state = .probing pr w ∧ f pr.pump = true := by
  cases h : p.state <;> simp [Pru.flag, h]

section
variable {s : State} {a : Nat}

/-- R98. -/
theorem State.ampHolds_ne_nil_iff (s : State) (a : Nat) :
    s.ampHolds a ≠ [] ↔ s.lmu.cls? a = some .dark ∨ s.lmu.cls? a = some .faint ∨ s.pbc.bypass[a]? = some true ∨
      (∃ pr w, s.pru.state = .probing pr w ∧ s.cfg.feeds pr.pump a = true) ∨
      ∃ x, s.flt.settle[a]? = some (some x) ∧ s.now < x := by
  rw [← or_assoc, ← Lmu.isLow_iff, ← Pbc.bypassed_iff, ← Pru.flag_any_iff s.pru fun j => s.cfg.feeds j a,
    ← isBefore_settle_iff]
  simp only [State.ampHolds, ne_eq, List.append_eq_nil_iff, ite_eq_right_iff, List.cons_ne_nil, imp_false, not_and_or,
    not_not, or_assoc]

/-- The runaway test of R97. -/
def State.Runaway (s : State) (a : Nat) (r : References) : Prop :=
  ¬ s.Incremented a ∧ (s.cfg.tr : Int) ≤ s.lmu.sOut a - r.oref

theorem State.ampResult_held (h : s.ampHolds a ≠ []) : (s.ampResult a).evidence = .held :=
  if_neg h

theorem State.ampResult_classified (h : s.ampHolds a = []) :
    (s.ampResult a).evidence = (s.classifyAmp a).1 ∧ (s.ampResult a).kind = (s.classifyAmp a).2 :=
  ⟨if_pos h, if_pos h⟩

variable {r : References}

theorem State.deficit_eq (hr : s.flt.refs[a]? = some r) : s.deficit a = r.gref - (s.lmu.sOut a - s.lmu.sIn a) := by
  rw [State.deficit, Flt.refs?_eq hr, State.gain]

theorem State.classifyAmp_runaway (hr : s.flt.refs[a]? = some r) (h : s.Runaway a r) :
    s.classifyAmp a = (.bad, .runaway) := by
  obtain ⟨hinc, hexcess⟩ := h
  rw [State.classifyAmp, (s.unincremented_iff a).2 hinc, State.runawayExcess, Flt.refs?_eq hr, decide_eq_true hexcess]
  rfl

/-- Where the runaway test fails, or is skipped, the deficit decides. -/
theorem State.classifyAmp_of_not_runaway (hr : s.flt.refs[a]? = some r) (h : ¬ s.Runaway a r) :
    s.classifyAmp a =
      if s.cfg.tgHi ≤ s.deficit a then (.bad, .deficit)
      else if s.deficit a < s.cfg.tgLo then (.good, .none) else (.neutral, .none) := by
  refine if_neg ?_
  rwa [Bool.and_eq_true, State.unincremented_iff, decide_eq_true_eq, State.runawayExcess, Flt.refs?_eq hr]

end

/-- Settles O31: each line of the statement is one of the rules above, for the basis, the span evidence and the amplifier
evidence in turn; its positions and entries are by definition those of `upstreamPos`, `upstream2Pos` and `ampEntryAt`. -/
theorem evidenceFollowsBasisAndHolds : Obligations.EvidenceFollowsBasisAndHolds := by
  intro a s c near far record fresh contents entry flag inLine gain
  have hfresh (q : Nat) : fresh q ↔ standing s.records q = .fresh := (standing_eq_fresh_iff s.records q).symm
  refine ⟨fun q => ⟨rfl, rfl⟩, State.basisOf_direct, State.basisOf_bridged,
    fun hu => State.basisOf_skipped (mt (hfresh _).2 hu), State.basisOf_none_of_not_inLine,
    fun hu => State.basisOf_none_of_fresh ((hfresh _).1 hu), State.spanResult_held_of_basis_none, ?span, ?amp⟩
  case span =>
    intro q ref e r hr he hsupplier excess held
    have hq : s.supplier a (s.basisOf a) = some q ∧ r.lossRef (s.basisOf a) = ref := by
      obtain ⟨hb, rfl, rfl⟩ | ⟨hb | hb, rfl, rfl⟩ := hsupplier <;> rw [hb] <;> exact ⟨rfl, rfl⟩
    obtain ⟨hq, rfl⟩ := hq
    have hheld : s.spanHolds a ≠ [] ↔ held := State.spanHolds_ne_nil_iff hq
    have hclass (hn : ¬ held) : (s.spanResult a).evidence = classifyExcess c excess :=
      State.spanResult_classified hr he hq (not_not.1 (mt hheld.1 hn))
    exact ⟨fun hh => State.spanResult_held (hheld.2 hh), fun hn hhi => (hclass hn).trans (classifyExcess_bad hhi),
      fun hn hlo hhi => (hclass hn).trans (classifyExcess_neutral hlo hhi),
      fun hn hlo hhi => (hclass hn).trans (classifyExcess_good hlo hhi)⟩
  case amp =>
    intro r hr held incremented runaway deficit
    have hheld : s.ampHolds a ≠ [] ↔ held := State.ampHolds_ne_nil_iff s a
    have hdeficit : s.deficit a = deficit := State.deficit_eq hr
    have hclass {v : Evidence × AmpKind} (hn : ¬ held) (hv : s.classifyAmp a = v) :
        (s.ampResult a).evidence = v.1 ∧ (s.ampResult a).kind = v.2 :=
      hv ▸ State.ampResult_classified (not_not.1 (mt hheld.1 hn))
    have hbelow (hnr : ¬ runaway) : s.classifyAmp a =
        if c.tgHi ≤ deficit then (.bad, .deficit) else if deficit < c.tgLo then (.good, .none) else (.neutral, .none) :=
      hdeficit ▸ State.classifyAmp_of_not_runaway hr hnr
    refine ⟨hdeficit, fun hh => State.ampResult_held (hheld.2 hh), fun hn hrun => ?runaway, fun hn hnr hhi => ?deficit,
      fun hn hnr hlo hhi => ?neutral, fun hn hnr hlo hhi => ?good⟩
    case runaway => exact hclass hn (State.classifyAmp_runaway hr hrun)
    case deficit => exact hclass hn ((hbelow hnr).trans (if_pos hhi))
    case neutral => exact hclass hn ((hbelow hnr).trans ((if_neg (not_le.2 hhi)).trans (if_neg (not_lt.2 hlo))))
    case good => exact hclass hn ((hbelow hnr).trans ((if_neg (not_le.2 hhi)).trans (if_pos hlo)))

end Sys2Proof.Machine
end

