-- ==== Sys2Proof/Proofs/SpanKinds.lean ====
section
/-! Stage 2 of the judgement epoch (R81, R111): the partner span, and the row that settles the kind of a FAULTY span. -/

namespace Sys2Proof.Machine

/-! ### The entry that a helper returns (R80, R81) -/

section
variable {rs : List Neighbour} {q : Nat} {r : Neighbour}

theorem ampEntryAt_of_no_record (h : findRecord rs q = none) (a i : Nat) : ampEntryAt rs q a i = none := by
  simp [ampEntryAt, freshContents, h]

theorem ampEntryAt_of_no_contents (h : findRecord rs q = some r) (hc : r.contents = none) (a i : Nat) :
    ampEntryAt rs q a i = none := by
  simp [ampEntryAt, freshContents, h, hc]

theorem ampEntryAt_of_contents {f : Frame} (h : findRecord rs q = some r) (hc : r.contents = some f) (a i : Nat) :
    ampEntryAt rs q a i = if r.freshness = .fresh ∧ pairOf a ≤ f.pairs then f.amps[i]? else none := by
  by_cases hf : r.freshness = .fresh <;> simp [ampEntryAt, freshContents, h, hc, hf]

end

/-! ### Stage 1 on a span -/

/-- Scoring sets the kind of a span only where it leaves it not FAULTY (R103). -/
theorem SpanEntry.scored_kind_of_faulty {c : Commissioning} {clock : Nat} {r : SpanResult} {e : SpanEntry}
    (hk : e.kind ≠ .lossOfLight) (h : (e.scored c clock r).state = .faulty) : (e.scored c clock r).kind = e.kind := by
  rw [SpanEntry.scored, if_neg hk] at h ⊢
  exact if_pos h

/-! ### Stage 2 on a span, row by row (R111) -/

section
variable {n : Nat} {df : Bool} {p : Option SpanVerdict} {e : SpanEntry}

/-- Stage 2 settles kinds alone. -/
theorem SpanEntry.settle_eq (n : Nat) (df : Bool) (p : Option SpanVerdict) (e : SpanEntry) :
    e.settle n df p = { e with kind := (e.settle n df p).kind } := by
  unfold SpanEntry.settle
  split
  · split
    · rfl
    · rfl
    · split <;> rfl
  · rfl

@[simp] theorem SpanEntry.settle_state : (e.settle n df p).state = e.state := by rw [SpanEntry.settle_eq]

@[simp] theorem SpanEntry.settle_basis : (e.settle n df p).basis = e.basis := by rw [SpanEntry.settle_eq]

theorem SpanEntry.settle_of_no_basis (h : e.basis = .none) : e.settle n df p = e := by
  simp [SpanEntry.settle, h]

theorem SpanEntry.settle_kind_of_skipped (hs : e.state = .faulty) (hk : e.kind ≠ .lossOfLight) (h : e.basis = .skipped) :
    (e.settle n df p).kind = .silentNeighbour := by
  rw [SpanEntry.settle, if_pos ⟨hs, hk⟩, h]

theorem SpanEntry.settle_kind_of_based (hs : e.state = .faulty) (hk : e.kind ≠ .lossOfLight)
    (h : e.basis = .direct ∨ e.basis = .bridged) :
    (e.settle n df p).kind = if 2 ≤ n ∧ df = true then .cable else partnerKind p := by
  rw [SpanEntry.settle, if_pos ⟨hs, hk⟩]
  obtain h | h := h <;> rw [h] <;> exact apply_ite SpanEntry.kind ..

end

theorem Flt.directionFaulty_iff (f : Flt) (a : Nat) :
    f.directionFaulty a = true ↔
      ∀ (i : Nat) (x : SpanEntry), f.spans[i]? = some x → i % 2 = a % 2 → x.state = .faulty := by
  simp only [Flt.directionFaulty, List.all_eq_true, List.mem_range, Bool.or_eq_true, bne_iff_ne, ne_eq,
    ← imp_iff_not_or, Option.any_eq_true, beq_iff_eq]
  constructor
  · intro h i x hx hdir
    obtain ⟨y, hy, hfaulty⟩ := h i (List.getElem?_eq_some_iff.1 hx).1 hdir
    cases hx.symm.trans hy
    exact hfaulty
  · exact fun h i hi hdir => ⟨f.spans[i], List.getElem?_eq_getElem hi, h i _ (List.getElem?_eq_getElem hi) hdir⟩

/-! ### The epoch (R105) -/

/-- Stages 3 and 4 leave the spans alone. -/
@[simp] theorem State.judged_spans (s : State) : s.judged.spans = (s.stage2 s.stage1).spans := rfl

/-- Stage 2 keeps the states, so a direction is FAULTY after it as before it. -/
theorem State.stage2_directionFaulty (s : State) (f : Flt) (a : Nat) :
    (s.stage2 f).directionFaulty a = f.directionFaulty a := by
  rw [Bool.eq_iff_iff]
  simp [Flt.directionFaulty_iff, State.stage2]

/-- What an epoch makes of a span: stage 1, then stage 2, with the direction as the epoch leaves it. -/
theorem State.judged_spans_getElem? (s : State) (a : Nat) :
    s.judged.spans[a]? = s.flt.spans[a]?.map fun e =>
      (e.scored s.cfg s.cfl.clock (s.spanResult a)).settle s.cfg.n (s.judged.directionFaulty a)
        (partnerSpan s.records s.cfg.position a) := by
  have hdir : s.judged.directionFaulty a = s.stage1.directionFaulty a := s.stage2_directionFaulty s.stage1 a
  simp [hdir, State.stage2, State.stage1, Function.comp_def]

/-- A span that the epoch leaves FAULTY is a scored one settled; scoring has kept its kind. -/
theorem State.judged_span_of_faulty {s : State} {a : Nat} {e e' : SpanEntry} (he : s.flt.spans[a]? = some e)
    (he' : s.judged.spans[a]? = some e') (hkind : e.kind ≠ .lossOfLight) (hfaulty : e'.state = .faulty) :
    ∃ e1 : SpanEntry, e1.state = .faulty ∧ e1.kind = e.kind ∧
      e' = e1.settle s.cfg.n (s.judged.directionFaulty a) (partnerSpan s.records s.cfg.position a) := by
  rw [State.judged_spans_getElem?, he] at he'
  cases he'
  rw [SpanEntry.settle_state] at hfaulty
  exact ⟨_, hfaulty, SpanEntry.scored_kind_of_faulty hkind hfaulty, rfl⟩

theorem State.judge_flt (s : State) : s.judge.flt = s.judged := by
  simp only [State.judge, State.report_flt]
  split <;> simp

/-- The state that a judgement epoch of the moment `d` judges. -/
def State.atEpoch (s : State) (d : Moment) : State :=
  { s.reach d with flt := { s.flt with epoch := some (d + Config.epochPeriod) } }

theorem exec_judgementEpoch {s : State} {d : Moment} (h : s.flt.epoch = some d) :
    exec .judgementEpoch s = .next (s.atEpoch d).judge := by
  simp only [exec, execJudgementEpoch, h]
  rfl

/-- Settles O33: a span left FAULTY is a scored entry settled, its kind still the old one, so each clause is a row of
stage 2 on that entry. -/
theorem spanKindsAreSettledInOrder : Obligations.SpanKindsAreSettledInOrder := by
  intro d s hepoch
  refine ⟨_, exec_judgementEpoch hepoch, ?_⟩
  rw [State.judge_flt]
  intro a e e' he he' hkind hfaulty direction partnerAt partner based
  have hpartner : partnerSpan s.records s.cfg.position a = partner := by
    change (ampEntryAt s.records partnerAt a (partnerAmp a)).map FrameAmp.span = partner
    dsimp only [partner]
    split
    next r hr =>
      split
      next f hf => rw [ampEntryAt_of_contents hr hf, apply_ite (Option.map FrameAmp.span)]; rfl
      next hf => rw [ampEntryAt_of_no_contents hr hf]; rfl
    next hr => rw [ampEntryAt_of_no_record hr]; rfl
  have hdirection : direction ↔ 2 ≤ s.cfg.n ∧ (s.atEpoch d).judged.directionFaulty a = true :=
    and_congr_right' (Flt.directionFaulty_iff _ a).symm
  obtain ⟨e1, hstate, hkept, he1⟩ := State.judged_span_of_faulty (s := s.atEpoch d) he he' hkind hfaulty
  have hsettled : e' = e1.settle s.cfg.n ((s.atEpoch d).judged.directionFaulty a) partner := hpartner ▸ he1
  have hlit : e1.kind ≠ .lossOfLight := hkept ▸ hkind
  have hbasis : e'.basis = e1.basis := by rw [hsettled, SpanEntry.settle_basis]
  have hbased (hb : based) : e'.kind =
      if 2 ≤ s.cfg.n ∧ (s.atEpoch d).judged.directionFaulty a = true then .cable else partnerKind partner := by
    rw [hsettled, SpanEntry.settle_kind_of_based hstate hlit (hbasis ▸ hb)]
  refine ⟨fun hb => ?none, fun hb => ?skipped, fun hb hd => ?cable, fun hb hd => ?partner⟩
  case none => rw [hsettled, SpanEntry.settle_of_no_basis (hbasis ▸ hb), hkept]
  case skipped => rw [hsettled, SpanEntry.settle_kind_of_skipped hstate hlit (hbasis ▸ hb)]
  case cable => rw [hbased hb, if_pos (hdirection.1 hd)]
  case partner =>
    rw [hbased hb, if_neg (mt hdirection.2 hd)]
    refine ⟨?_, ?_, ?_⟩
    · rintro (h | h | h | h | h) <;> exact congrArg partnerKind h
    · rintro (h | h) <;> exact congrArg partnerKind h
    · rintro (h | h) <;> exact congrArg partnerKind h

end Sys2Proof.Machine
end

section
/-! What the PBC's end of a probe does (R141, R156, log entry 25), in the words that the statements about isolations share:
`ProbeEnded`, `SettleStarted` and `Withdrawable`. -/

namespace Sys2Proof.Machine

section
variable {s t : State} {j : Nat} {g : GivenResult}

/-! ### The result that can be taken back (log entry 25) -/

/-- The result of the latest request for pump `j`: none of the later ones is for it. -/
theorem Pbc.givenResult_eq_some_iff {p : Pbc} :
    p.givenResult j = some g ↔
      ∃ earlier later, p.restores = earlier ++ ⟨j, some g⟩ :: later ∧ ∀ r ∈ later, r.pump ≠ j := by
  simp only [Pbc.givenResult, Option.bind_eq_some_iff, List.find?_eq_some_iff_append, beq_iff_eq]
  constructor
  · rintro ⟨⟨i, r⟩, ⟨rfl, later, earlier, hr, hl⟩, rfl⟩
    refine ⟨earlier.reverse, later.reverse, ?_, by simpa using hl⟩
    simpa using congrArg List.reverse hr
  · rintro ⟨earlier, later, hr, hl⟩
    exact ⟨⟨j, some g⟩, ⟨rfl, later.reverse, earlier.reverse, by simp [hr], by simpa using hl⟩, rfl⟩

theorem withdrawable_iff : Withdrawable s j g ↔
    (∀ pr w, s.pru.state = .probing pr w → pr.pump ≠ j) ∧ s.flt.pumps[j]? = some g.after ∧
      s.pbc.givenResult j = some g := by
  rw [Pbc.givenResult_eq_some_iff, Withdrawable]

/-! ### The settle times (R99) and the ends of probes (R153) -/

theorem SettleStarted.of_startSettle (h : t.flt.settle = (s.flt.startSettle s.cfg s.now j).settle) :
    SettleStarted s t j (s.now + 1000 * s.cfg.window) := by
  rw [SettleStarted, h]
  refine ⟨List.length_mapIdx, fun a old hold => ?_⟩
  simp only [Flt.startSettle, List.getElem?_mapIdx, hold, Option.map_some]
  cases old <;> rfl

/-- R153: the gap timer and the round turn, and nothing else, tell whether the end of a probe starts the gap. -/
theorem ProbeEnded.of_finishProbe {pr : Probe} (hnow : t.now = s.now) (hpru : t.pru = (s.finishProbe pr).pru)
    (hsettle : t.flt.settle = (s.finishProbe pr).flt.settle) : ProbeEnded s t pr := by
  rw [State.finishProbe_pru] at hpru
  rw [ProbeEnded, hnow, hpru]
  refine ⟨?state, fun hgap => ?gap, fun hgap => ?noGap, SettleStarted.of_startSettle hsettle⟩
  case state =>
    unfold Pru.endProbe
    split <;> try split
    all_goals rfl
  case gap =>
    obtain ⟨r, hr, hsource⟩ := hgap
    simp only [Pru.endProbe, hr, if_pos hsource]
    exact ⟨rfl, rfl⟩
  case noGap =>
    unfold Pru.endProbe
    split
    next r hr => rw [if_neg fun h => hgap ⟨r, hr, h⟩]; exact ⟨rfl, rfl⟩
    next => exact ⟨rfl, rfl⟩

/-! ### A probe taken out of PROBE by the PBC (R141, R156) -/

theorem State.probeTaken_eq_finishProbe {pr : Probe} {w : Moment} (h : s.pru.state = .probing pr w) (hj : pr.pump = j) :
    s.probeTaken j = s.finishProbe pr := by
  simp only [State.probeTaken, h, if_pos hj]

theorem State.probeTaken_eq_endLate (h : ∀ pr w, s.pru.state = .probing pr w → pr.pump ≠ j) :
    s.probeTaken j = s.endLate j := by
  unfold State.probeTaken
  split
  next pr w hs => rw [if_neg (h pr w hs)]
  next => rfl

/-- A probe on pump `j` is either the PRU's own or one that the PRU has ended. -/
theorem State.probeTaken_cases (s : State) (j : Nat) :
    (∃ pr w, s.pru.state = .probing pr w ∧ pr.pump = j ∧ s.probeTaken j = s.finishProbe pr) ∨
      ((∀ pr w, s.pru.state = .probing pr w → pr.pump ≠ j) ∧ s.probeTaken j = s.endLate j) := by
  by_cases h : ∀ pr w, s.pru.state = .probing pr w → pr.pump ≠ j
  · exact .inr ⟨h, State.probeTaken_eq_endLate h⟩
  · push Not at h
    obtain ⟨pr, w, hs, hj⟩ := h
    exact .inl ⟨pr, w, hs, hj, State.probeTaken_eq_finishProbe hs hj⟩

/-- `t` keeps, of the state `u` in which the PBC has ended a probe, what that end touches besides the PUMP entries. -/
structure EndsAs (u t : State) : Prop where
  now : t.now = u.now
  pru : t.pru = u.pru
  settle : t.flt.settle = u.flt.settle

theorem EndsAs.probeEnded {pr : Probe} {w : Moment} (h : EndsAs (s.probeTaken j) t) (hs : s.pru.state = .probing pr w)
    (hj : pr.pump = j) : ProbeEnded s t pr := by
  obtain ⟨hnow, hpru, hsettle⟩ := h
  rw [State.probeTaken_eq_finishProbe hs hj] at hnow hpru hsettle
  exact .of_finishProbe hnow hpru hsettle

theorem EndsAs.endedLate (h : EndsAs (s.probeTaken j) t) (hs : ∀ pr w, s.pru.state = .probing pr w → pr.pump ≠ j) :
    t.pru = s.pru ∧ SettleStarted s t j (s.now + 1000 * s.cfg.window) := by
  obtain ⟨-, hpru, hsettle⟩ := h
  rw [State.probeTaken_eq_endLate hs] at hpru hsettle
  exact ⟨hpru.trans (State.endLate_pru s j), .of_startSettle (hsettle.trans (State.endLate_settle s j))⟩

/-- The PUMP entries after the end of a probe whose result can be taken back: the free value decides. -/
theorem State.probeTaken_of_withdrawable (h : Withdrawable s j g) :
    (s.probeTaken j).spare = s.spare + 1 ∧
      ∀ i, (s.probeTaken j).flt.pumps[i]? = s.flt.pumps[i]?.map fun e =>
        if i = j ∧ Config.resultWithdrawn s.spare = true then PumpEntry.withdraw g.before e else e := by
  obtain ⟨hs, hafter, hgiven⟩ := withdrawable_iff.1 h
  rw [State.probeTaken_eq_endLate hs]
  simp only [State.endLate, hgiven, if_pos hafter]
  refine ⟨rfl, fun i => ?_⟩
  simp only [State.reviewResult, State.spend, Flt.startSettle]
  cases Config.resultWithdrawn s.spare with
  | false => simp
  | true =>
    simp only [if_true, and_true, List.getElem?_modify, eq_comm (a := i)]
    split <;> simp

/-- With no result that can be taken back the end of a probe leaves the PUMP entries alone. -/
theorem State.probeTaken_of_not_withdrawable (h : ∀ g, ¬ Withdrawable s j g) :
    (s.probeTaken j).spare = s.spare ∧ (s.probeTaken j).flt.pumps = s.flt.pumps := by
  rcases State.probeTaken_cases s j with ⟨pr, w, -, -, he⟩ | ⟨hs, he⟩
  · rw [he]
    exact ⟨rfl, rfl⟩
  · rcases State.endLate_cases s j with hl | ⟨g, hgiven, hafter, -⟩
    · rw [he, hl]
      exact ⟨rfl, rfl⟩
    · exact absurd (withdrawable_iff.2 ⟨hs, hafter, hgiven⟩) (h g)

/-- Of the state `s`, `t` changes nothing that the end of a probe does not touch. -/
def TouchesProbeOnly (s t : State) : Prop :=
  t = { s with flt := { s.flt with pumps := t.flt.pumps, settle := t.flt.settle }, pru := t.pru, spare := t.spare }

theorem State.probeTaken_touches (s : State) (j : Nat) : TouchesProbeOnly s (s.probeTaken j) := by
  unfold TouchesProbeOnly
  rcases State.probeTaken_cases s j with ⟨pr, w, -, -, he⟩ | ⟨-, he⟩
  · rw [he]
    rfl
  · rcases State.endLate_cases s j with hl | ⟨g, -, -, hl⟩ <;> rw [he, hl] <;> rfl

/-! ### The pumps in PROBE -/

theorem Pbc.isIn_of_getElem? {p : Pbc} {x : Pump} (h : p.pumps[j]? = some x) (states : List PumpState) :
    p.isIn j states = states.contains x.state := by
  simp only [Pbc.isIn, h]

theorem Pbc.probed_eq_some {p : Pbc} (h : p.probed = some j) : ∃ x, p.pumps[j]? = some x ∧ x.state = .probe := by
  obtain ⟨hj, hx, -⟩ := List.findIdx?_eq_some_iff_getElem.1 h
  exact ⟨_, List.getElem?_eq_getElem hj, beq_iff_eq.1 hx⟩

/-- R139: there is no second pump in PROBE to be found first. -/
theorem Pbc.probed_of_one {p : Pbc} {x : Pump} (h1 : p.pumps.countP (fun x => x.state == .probe) ≤ 1)
    (hx : p.pumps[j]? = some x) (hp : x.state = .probe) : p.probed = some j := by
  obtain ⟨hj, rfl⟩ := List.getElem?_eq_some_iff.1 hx
  have hfirst : (p.pumps.take j).countP (fun x => x.state == .probe) = 0 := by
    rw [← List.take_append_drop j p.pumps, List.countP_append, List.drop_eq_getElem_cons hj,
      List.countP_cons_of_pos (p := fun x : Pump => x.state == .probe) (beq_iff_eq.2 hp)] at h1
    omega
  refine List.findIdx?_eq_some_iff_getElem.2 ⟨hj, beq_iff_eq.2 hp, fun i hi => ?_⟩
  exact List.countP_eq_zero.1 hfirst _ (List.mem_take_iff_getElem.2 ⟨i, by omega, rfl⟩)

end

end Sys2Proof.Machine
end

section
/-! Amplifier isolations: the bypass granted, the pumps examined for remap (R135, R136, R121). -/

namespace Sys2Proof.Machine

/-! ### Groups and supervisory amplifiers -/

theorem Commissioning.isSupervisory_iff (c : Commissioning) (a : Nat) :
    c.isSupervisory a = true ↔ a = c.supAmp .e ∨ a = c.supAmp .w := by
  simp [Commissioning.isSupervisory]

theorem Commissioning.mem_group {c : Commissioning} {j a : Nat} : a ∈ c.group j ↔ c.feeds j a = true := by
  simp only [Commissioning.group, List.mem_filter, List.mem_range, and_iff_right_iff_imp]
  intro h
  exact of_decide_eq_true (Bool.and_eq_true_iff.1 h).1

theorem Pbc.whollyBypassed_iff (p : Pbc) (c : Commissioning) (j : Nat) :
    p.whollyBypassed c j = true ↔
      (∃ a, c.feeds j a = true) ∧ ∀ a, c.feeds j a = true → p.bypass[a]? = some true := by
  simp [Pbc.whollyBypassed, ← Commissioning.mem_group, Pbc.bypassed_iff, ← List.isEmpty_eq_false_iff_exists_mem]

/-! ### Remap of one pump (R136) -/

section
variable {k : PumpConfig} {x : Pump} {wholly : Bool}

theorem Pump.toRemap_latch : (x.toRemap k).latch = x.latch := by
  unfold Pump.toRemap; split <;> rfl

theorem Pump.remap_latch : (x.remap k wholly).latch = x.latch := by
  unfold Pump.remap; split
  · rfl
  · split <;> simp only [Pump.toRemap_latch, Pump.toActive]

theorem Pump.remap_eq_toRemap (hl : x.latch = false) (h : x.state = .active ∨ x.state = .probe) :
    x.remap k true = x.toRemap k := by
  rcases h with h | h <;> simp [Pump.remap, hl, h]

theorem Pump.remap_eq_toActive (hl : x.latch = false) (h : x.state = .floor ∨ x.state = .off) :
    x.remap k false = x.toActive k := by
  rcases h with h | h <;> simp [Pump.remap, hl, h]

/-- A latched pump is passed over, and one that is in its remap state exactly while it is wholly bypassed is kept. -/
theorem Pump.remap_of_settled (h : x.latch = true ∨ (wholly = true ↔ x.state = .floor ∨ x.state = .off)) :
    x.remap k wholly = x := by
  rcases h with hl | h
  · simp only [Pump.remap, if_pos hl]
  · cases wholly with
    | true => rcases h.1 rfl with hs | hs <;> simp [Pump.remap, hs]
    | false =>
      obtain ⟨hfloor, hoff⟩ := not_or.1 (mt h.2 Bool.false_ne_true)
      cases hs : x.state with
      | active | probe => simp [Pump.remap, hs]
      | floor => exact absurd hs hfloor
      | off => exact absurd hs hoff

/-- A pump in its remap state is not BUSY, so the recomputation of the targets leaves its drive and stops its timer. -/
theorem Steered.of_toRemap {now : Moment} {target : Nat} {y : Pump} (h : Steered k now target (x.toRemap k) y) :
    y.preProbe = none ∧ y.step = none ∧ (k.remapOff = true → y.state = .off ∧ y.applied = 0) ∧
      (k.remapOff = false → y.state = .floor ∧ y.applied = k.floor) := by
  obtain ⟨hstate, -, hpre, -, hidle, -, -⟩ := h
  cases hk : k.remapOff <;> simp [Pump.toRemap, hk, Pump.toOff] at hstate hpre hidle ⊢ <;>
    exact ⟨hpre, hidle.2, hstate, hidle.1⟩

end

theorem Pbc.remap_steered (p : Pbc) (c : Commissioning) (now : Moment) {j : Nat} {x : Pump} (h : p.pumps[j]? = some x) :
    ∃ y, (p.remap c now).pumps[j]? = some y ∧
      Steered (c.pump j) now (targetSum c (p.remap c now) j) (x.remap (c.pump j) (p.whollyBypassed c j)) y :=
  Pbc.retarget_steered _ c now (by simp only [List.getElem?_mapIdx, h, Option.map_some])

/-! ### The probe that a remap ends (R141) -/

theorem State.endRemappedProbe_of_wholly {s : State} {j : Nat} {x : Pump} (h1 : OneProbe s)
    (hx : s.pbc.pumps[j]? = some x) (hp : x.state = .probe) (hw : s.pbc.whollyBypassed s.cfg j = true) :
    s.endRemappedProbe = s.probeTaken j := by
  simp only [State.endRemappedProbe, Pbc.probed_of_one h1 hx hp, if_pos hw]

/-- Without a pump in PROBE that is wholly bypassed, a remap ends no probe. -/
theorem State.endRemappedProbe_of_not_wholly {s : State}
    (h : ∀ j x, s.pbc.pumps[j]? = some x → x.state = .probe → ¬ s.pbc.whollyBypassed s.cfg j = true) :
    s.endRemappedProbe = s := by
  unfold State.endRemappedProbe
  split
  next j hj =>
    obtain ⟨x, hx, hp⟩ := Pbc.probed_eq_some hj
    exact if_neg (h j x hx hp)
  next => rfl

@[simp] theorem State.remap_pru (s : State) : s.remap.pru = s.endRemappedProbe.pru := rfl
@[simp] theorem State.remap_flt (s : State) : s.remap.flt = s.endRemappedProbe.flt := rfl
@[simp] theorem State.remap_spare (s : State) : s.remap.spare = s.endRemappedProbe.spare := rfl

theorem State.endRemappedProbe_touches (s : State) : TouchesProbeOnly s s.endRemappedProbe := by
  unfold State.endRemappedProbe
  split
  next j hj => split
               · exact State.probeTaken_touches s j
               · rfl
  next => rfl

/-! ### The grant (R121, R135) -/

theorem sinceOf_faulty (clock since : Nat) (before : Suspicion) :
    sinceOf clock since before .faulty = if before = .faulty then since else clock := by
  simp only [sinceOf, eq_comm]

theorem AmpEntry.grant_eq (clock : Nat) (kind : AmpKind) (e : AmpEntry) :
    e.grant clock kind =
      if e.latch = false then
        { e with latch := true, score := 255, state := .faulty, kind := kind,
                 since := if e.state = .faulty then e.since else clock }
      else e := by
  rw [AmpEntry.grant, sinceOf_faulty]
  cases e.latch <;> rfl

/-- An isolation in force puts the ISOLATED marker on the tone (R18). -/
theorem State.report_isolated {s : State} {x : Sending} (h : s.pbc.isolating = true) (hx : s.ttx = .sending x) :
    s.report.ttx = .sending { x with marker := .isolated } := by
  rw [State.report_ttx, hx, State.markerNow, if_pos h]
  rfl

/-- The state whose pumps the grant of a bypass examines for remap: switch, latch and AMP entry set. -/
def State.withBypass (s : State) (a : Nat) (kind : AmpKind) : State :=
  { s with
    pbc := { s.pbc with bypass := s.pbc.bypass.set a true, switches := s.pbc.switches.set a true }
    flt := { s.flt with amps := s.flt.amps.modify a (AmpEntry.grant s.cfl.clock kind) } }

theorem State.bypass_eq (s : State) (a : Nat) (kind : AmpKind) : s.bypass a kind = (s.withBypass a kind).remap.report :=
  rfl

/-- A granted bypass changes the switch and the latch, the pumps, the Suspect Table and what the end of a probe touches. -/
theorem State.bypass_frame (s : State) (a : Nat) (kind : AmpKind) :
    s.bypass a kind =
      { s with
        flt := { s.flt with amps := (s.bypass a kind).flt.amps, pumps := (s.bypass a kind).flt.pumps,
                            settle := (s.bypass a kind).flt.settle }
        pru := (s.bypass a kind).pru, ttx := (s.bypass a kind).ttx, spare := (s.bypass a kind).spare
        pbc := { s.pbc with bypass := s.pbc.bypass.set a true, switches := s.pbc.switches.set a true,
                            pumps := (s.bypass a kind).pbc.pumps } } := by
  have hkeep : TouchesProbeOnly (s.withBypass a kind) (s.withBypass a kind).endRemappedProbe :=
    State.endRemappedProbe_touches _
  unfold TouchesProbeOnly at hkeep
  rw [State.bypass_eq, State.remap, hkeep]
  rfl

section
variable {s : State} {a : Nat} {kind : AmpKind} {rest : List IsolationRequest}

theorem State.withBypass_wholly (ha : s.pbc.bypass[a]? = some false) (kind : AmpKind) (j : Nat) :
    (s.withBypass a kind).pbc.whollyBypassed s.cfg j = true ↔
      (∃ x, s.cfg.feeds j x = true) ∧ ∀ x, s.cfg.feeds j x = true → x = a ∨ s.pbc.bypass[x]? = some true := by
  have hin : a < s.pbc.bypass.length := (List.getElem?_eq_some_iff.1 ha).1
  have hset (x : Nat) : (s.pbc.bypass.set a true)[x]? = some true ↔ x = a ∨ s.pbc.bypass[x]? = some true := by
    by_cases hx : a = x
    · simp [← hx, hin]
    · simp [List.getElem?_set_ne hx, Ne.symm hx]
  simp only [Pbc.whollyBypassed_iff, State.withBypass, hset]

theorem State.withBypass_isolating (ha : s.pbc.bypass[a]? = some false) (kind : AmpKind) :
    (s.withBypass a kind).remap.pbc.isolating = true := by
  have hset : true ∈ s.pbc.bypass.set a true := List.mem_set (List.getElem?_eq_some_iff.1 ha).1 true
  rw [State.remap_pbc]
  exact Bool.or_eq_true_iff.2 (.inl (List.any_eq_true.2 ⟨true, hset, rfl⟩))

theorem State.withBypass_amps {i : Nat} {e : AmpEntry} (he : s.flt.amps[i]? = some e) :
    (s.withBypass a kind).flt.amps[i]? =
      some (if i = a ∧ e.latch = false then
              { e with latch := true, score := 255, state := .faulty, kind := kind,
                       since := if e.state = .faulty then e.since else s.cfl.clock }
            else e) := by
  simp only [State.withBypass, List.getElem?_modify, he, AmpEntry.grant_eq, ite_and, eq_comm (a := a)]
  split <;> rfl

/-! ### The request (R135) -/

/-- The state in which the PBC judges a request, taken from its list. -/
def State.taking (s : State) (rest : List IsolationRequest) : State :=
  { s with pbc := { s.pbc with isolations := rest } }

theorem exec_ampIsolationRequest (hr : s.pbc.isolations = .amp a kind :: rest) :
    exec .ampIsolationRequest s =
      if s.cfg.isSupervisory a = true ∨ s.pbc.bypassed a = true then .next (s.taking rest)
      else .next ((s.taking rest).bypass a kind) := by
  simp only [exec, execAmpIsolationRequest, hr, ite_or]
  rfl

end

/-- Settles O34: a refusal only takes the request; a grant remaps the pumps of the state with the bypass set, where a
probe can end on the one pump in PROBE alone. -/
theorem ampIsolationIsGrantedOrRefused : Obligations.AmpIsolationIsGrantedOrRefused := by
  intro a kind rest s hr c wholly
  refine ⟨fun h => ?refused, fun he hw ha => ?granted⟩
  case refused =>
    rw [← or_assoc, ← Commissioning.isSupervisory_iff, ← Pbc.bypassed_iff] at h
    rw [exec_ampIsolationRequest hr, if_pos h]
    rfl
  case granted =>
    have hgrant : ¬ (c.isSupervisory a = true ∨ s.pbc.bypassed a = true) := by
      rw [Commissioning.isSupervisory_iff, Pbc.bypassed_iff, ha]
      simp [he, hw]
    rw [exec_ampIsolationRequest hr, if_neg hgrant, State.bypass_eq]
    let u := (s.taking rest).withBypass a kind
    have hwholly (j : Nat) : u.pbc.whollyBypassed c j = true ↔ wholly j :=
      State.withBypass_wholly (s := s.taking rest) ha kind j
    refine ⟨u.remap.report, rfl, State.bypass_frame (s.taking rest) a kind,
      State.report_markerFollows (State.remap_ttx u),
      fun x hx => State.report_isolated (State.withBypass_isolating (s := s.taking rest) ha kind)
        ((State.remap_ttx u).trans hx), fun i e hi => ?amps, fun j x hj => ?pump,
      fun j x hj hp h1 hwh => ?probe, fun h => ?noProbe⟩
    case amps =>
      have hprobe : u.endRemappedProbe.flt.amps = u.flt.amps :=
        congrArg (·.flt.amps) (State.endRemappedProbe_touches u)
      exact (congrArg (·[i]?) hprobe).trans (State.withBypass_amps (s := s.taking rest) hi)
    case pump =>
      obtain ⟨y, hy, hsteered⟩ := Pbc.remap_steered u.pbc c s.now (j := j) (x := x) hj
      have hpbc : u.pbc.remap c s.now = u.remap.report.pbc := (State.remap_pbc u).symm
      rw [hpbc] at hy hsteered
      obtain ⟨-, hlatch, -, htarget, -⟩ := id hsteered
      refine ⟨y, hy, hlatch.trans Pump.remap_latch, htarget, fun hl hwh hs => ?_, fun hl hwh hs => ?_,
        fun hs => ?_⟩
      · rw [(hwholly j).2 hwh, Pump.remap_eq_toRemap hl hs] at hsteered
        exact hsteered.of_toRemap
      · rw [Bool.eq_false_iff.2 (mt (hwholly j).1 hwh), Pump.remap_eq_toActive hl hs] at hsteered
        exact hsteered
      · rw [← hwholly] at hs
        rwa [Pump.remap_of_settled hs] at hsteered
    case probe =>
      have hend : u.endRemappedProbe = u.probeTaken j := State.endRemappedProbe_of_wholly h1 hj hp ((hwholly j).2 hwh)
      have hends : EndsAs (u.probeTaken j) u.remap.report := by
        rw [← hend]
        exact ⟨rfl, rfl, rfl⟩
      rw [State.report_flt, State.report_spare, State.remap_flt, State.remap_spare, hend]
      exact ⟨fun pr w hs hpr => hends.probeEnded hs hpr, fun hs => hends.endedLate hs,
        fun hg => (State.probeTaken_of_not_withdrawable (s := u) hg).symm,
        fun g hg => State.probeTaken_of_withdrawable (s := u) hg⟩
    case noProbe =>
      have hend : u.endRemappedProbe = u :=
        State.endRemappedProbe_of_not_wholly fun j x hj hp => mt (hwholly j).1 (h j x hj hp)
      rw [State.report_pru, State.report_flt, State.report_spare, State.remap_pru, State.remap_flt, State.remap_spare,
        hend]
      exact ⟨rfl, rfl, rfl, rfl⟩

end Sys2Proof.Machine
end

section
/-! Pump isolations: the pump that must stay, and the pump put OFF (R137, R121). -/

namespace Sys2Proof.Machine

/-! ### The pump that must stay lit (R137) -/

section
variable {p : Pbc} {c : Commissioning} {j : Nat}

/-- Pump `i` is there and not OFF. -/
def Pbc.Lit (p : Pbc) (i : Nat) : Prop := ∃ y, p.pumps[i]? = some y ∧ y.state ≠ .off

theorem Pbc.isIn_lit_iff (i : Nat) : p.isIn i [.active, .probe, .floor] = true ↔ p.Lit i := by
  unfold Pbc.isIn Pbc.Lit
  cases p.pumps[i]? with
  | none => simp
  | some y => cases hy : y.state <;> simp [hy]

theorem Pbc.Lit.lt_length {i : Nat} (h : p.Lit i) : i < p.pumps.length := by
  obtain ⟨y, hy, -⟩ := h
  exact (List.getElem?_eq_some_iff.1 hy).1

theorem Pbc.lastFeeding_iff (a : Nat) :
    p.lastFeeding c j a = true ↔
      c.feeds j a = true ∧ p.Lit j ∧ ∀ i, i ≠ j → c.feeds i a = true → ¬ p.Lit i := by
  have hnodup : ((p.feeders c a).filter fun i => p.isIn i [.active, .probe, .floor]).Nodup :=
    (List.nodup_range.filter _).filter _
  have hmem (i : Nat) : i ∈ (p.feeders c a).filter (fun i => p.isIn i [.active, .probe, .floor]) ↔
      c.feeds i a = true ∧ p.Lit i := by
    simp only [Pbc.feeders, List.mem_filter, List.mem_range, Pbc.isIn_lit_iff]
    exact ⟨fun ⟨⟨_, hf⟩, hl⟩ => ⟨hf, hl⟩, fun ⟨hf, hl⟩ => ⟨⟨hl.lt_length, hf⟩, hl⟩⟩
  rw [Pbc.lastFeeding, beq_iff_eq, ← List.perm_singleton, List.perm_ext_iff_of_nodup hnodup (List.nodup_singleton j)]
  simp only [hmem, List.mem_singleton]
  constructor
  · intro h
    obtain ⟨hf, hl⟩ := (h j).2 rfl
    exact ⟨hf, hl, fun i hne hfi hli => hne ((h i).1 ⟨hfi, hli⟩)⟩
  · rintro ⟨hf, hl, hothers⟩ i
    exact ⟨fun ⟨hfi, hli⟩ => by_contra fun hne => hothers i hne hfi hli, fun h => h ▸ ⟨hf, hl⟩⟩

theorem State.mustKeep_iff (s : State) (j : Nat) :
    s.mustKeep j = true ↔
      ∃ b, s.cfg.feeds j (s.cfg.supAmp b) = true ∧ s.pbc.Lit j ∧
        ∀ i, i ≠ j → s.cfg.feeds i (s.cfg.supAmp b) = true → ¬ s.pbc.Lit i := by
  simp only [State.mustKeep, Bool.or_eq_true, Pbc.lastFeeding_iff]
  constructor
  · rintro (h | h)
    · exact ⟨.e, h⟩
    · exact ⟨.w, h⟩
  · rintro ⟨_ | _, h⟩
    · exact .inl h
    · exact .inr h

end

/-! ### The grant (R121, R137) -/

theorem PumpEntry.grant_eq (clock : Nat) (e : PumpEntry) :
    e.grant clock =
      if e.latch then e
      else { e with latch := true, score := 255, state := .faulty, kind := .noResponse,
                    since := if e.state = .faulty then e.since else clock } := by
  rw [PumpEntry.grant, sinceOf_faulty]
  rfl

section
variable {s : State} {j : Nat} {x : Pump} {rest : List IsolationRequest}

theorem exec_pumpIsolationRequest (hr : s.pbc.isolations = .pump j :: rest) (hx : s.pbc.pumps[j]? = some x) :
    exec .pumpIsolationRequest s =
      if s.mustKeep j = true ∨ x.latch = true then .next (s.taking rest)
      else .next ((s.taking rest).isolatePump j) := by
  simp only [exec, execPumpIsolationRequest, hr, ite_or, Pbc.latched, hx, Option.any_some]
  rfl

/-- The state in which the grant puts pump `j` OFF: a probe on it has ended. -/
def State.endIsolatedProbe (s : State) (j : Nat) : State := if s.pbc.isIn j [.probe] then s.probeTaken j else s

theorem State.endIsolatedProbe_of_probe (hx : s.pbc.pumps[j]? = some x) (hp : x.state = .probe) :
    s.endIsolatedProbe j = s.probeTaken j := by
  rw [State.endIsolatedProbe, Pbc.isIn_of_getElem? hx, hp]
  rfl

theorem State.endIsolatedProbe_of_not_probe (hx : s.pbc.pumps[j]? = some x) (hp : x.state ≠ .probe) :
    s.endIsolatedProbe j = s := by
  rw [State.endIsolatedProbe, Pbc.isIn_of_getElem? hx]
  simp [hp]

theorem State.endIsolatedProbe_touches (s : State) (j : Nat) : TouchesProbeOnly s (s.endIsolatedProbe j) := by
  unfold State.endIsolatedProbe
  split
  · exact State.probeTaken_touches s j
  · rfl

theorem State.isolatePump_eq (s : State) (j : Nat) :
    s.isolatePump j =
      State.report
        { s.endIsolatedProbe j with
          pbc :=
            Pbc.retarget
              { (s.endIsolatedProbe j).pbc with
                pumps := (s.endIsolatedProbe j).pbc.pumps.modify j fun x => { x.toOff with latch := true } }
              s.cfg s.now
          flt :=
            { (s.endIsolatedProbe j).flt with
              pumps := (s.endIsolatedProbe j).flt.pumps.modify j (PumpEntry.grant s.cfl.clock) } } := rfl

@[simp] theorem State.isolatePump_pru (s : State) (j : Nat) : (s.isolatePump j).pru = (s.endIsolatedProbe j).pru := rfl
@[simp] theorem State.isolatePump_spare (s : State) (j : Nat) : (s.isolatePump j).spare = (s.endIsolatedProbe j).spare := rfl
@[simp] theorem State.isolatePump_settle (s : State) (j : Nat) :
    (s.isolatePump j).flt.settle = (s.endIsolatedProbe j).flt.settle := rfl
@[simp] theorem State.isolatePump_pumpEntries (s : State) (j : Nat) :
    (s.isolatePump j).flt.pumps = (s.endIsolatedProbe j).flt.pumps.modify j (PumpEntry.grant s.cfl.clock) := rfl

/-- A granted isolation changes the pumps, the PUMP entries and what the end of a probe touches. -/
theorem State.isolatePump_frame (s : State) (j : Nat) :
    s.isolatePump j =
      { s with
        flt := { s.flt with pumps := (s.isolatePump j).flt.pumps, settle := (s.isolatePump j).flt.settle }
        pru := (s.isolatePump j).pru, ttx := (s.isolatePump j).ttx, spare := (s.isolatePump j).spare
        pbc := { s.pbc with pumps := (s.isolatePump j).pbc.pumps } } := by
  have hkeep : TouchesProbeOnly s (s.endIsolatedProbe j) := State.endIsolatedProbe_touches s j
  unfold TouchesProbeOnly at hkeep
  rw [State.isolatePump_eq, hkeep]
  rfl

/-! ### The pumps after the grant (R132, R133, R137) -/

theorem State.isolatePump_steered {i : Nat} {y : Pump} (hy : s.pbc.pumps[i]? = some y) :
    ∃ z, (s.isolatePump j).pbc.pumps[i]? = some z ∧
      Steered (s.cfg.pump i) s.now (targetSum s.cfg (s.isolatePump j).pbc i)
        (if j = i then { y.toOff with latch := true } else y) z := by
  rw [State.isolatePump_pbc]
  refine Pbc.retarget_steered _ s.cfg s.now ?_
  rw [List.getElem?_modify, hy]
  rfl

/-- A pump that is OFF is not BUSY, so the recomputation of the targets gives it its target alone. -/
theorem Steered.of_toOff {k : PumpConfig} {now : Moment} {target : Nat} {y : Pump}
    (h : Steered k now target { x.toOff with latch := true } y) :
    y = { state := .off, target := target, applied := 0, latch := true, preProbe := none, step := none } := by
  obtain ⟨hstate, hlatch, hpre, htarget, hidle, -, -⟩ := h
  obtain ⟨happlied, hstep⟩ := hidle fun hbusy => PumpState.noConfusion hbusy.1
  cases y
  simp only [Pump.mk.injEq]
  exact ⟨hstate, htarget, happlied, hlatch, hpre, hstep⟩

theorem State.isolatePump_off (hx : s.pbc.pumps[j]? = some x) :
    (s.isolatePump j).pbc.pumps[j]? =
      some { state := .off, target := targetSum s.cfg (s.isolatePump j).pbc j, applied := 0, latch := true,
             preProbe := none, step := none } := by
  obtain ⟨y, hy, hsteered⟩ := State.isolatePump_steered (j := j) hx
  rw [if_pos rfl] at hsteered
  rw [hy, hsteered.of_toOff]

theorem State.isolatePump_isolating (hx : s.pbc.pumps[j]? = some x) : (s.isolatePump j).pbc.isolating = true :=
  Bool.or_eq_true_iff.2 (.inr (List.any_eq_true.2 ⟨_, List.mem_of_getElem? (State.isolatePump_off hx), rfl⟩))

/-! ### The marker after the grant (R18) -/

theorem State.endIsolatedProbe_ttx (s : State) (j : Nat) : (s.endIsolatedProbe j).ttx = s.ttx := by
  unfold State.endIsolatedProbe
  split
  · exact State.probeTaken_ttx s j
  · rfl

theorem State.isolatePump_markerFollows (s : State) (j : Nat) : MarkerFollows s (s.isolatePump j) := by
  rw [State.isolatePump_eq]
  exact State.report_markerFollows (State.endIsolatedProbe_ttx s j)

theorem State.isolatePump_marker {m : Sending} (hx : s.pbc.pumps[j]? = some x) (hm : s.ttx = .sending m) :
    (s.isolatePump j).ttx = .sending { m with marker := .isolated } := by
  have hisolating := State.isolatePump_isolating hx
  rw [State.isolatePump_eq] at hisolating ⊢
  exact State.report_isolated hisolating ((State.endIsolatedProbe_ttx s j).trans hm)

/-! ### The PUMP entries after the grant (R121, R141) -/

/-- The result `g` of the probe on pump `j`, in the record `x`, is taken back (log entry 25). -/
def TakenBack (s : State) (j : Nat) (x : Pump) (g : GivenResult) : Prop :=
  x.state = .probe ∧ Withdrawable s j g ∧ Config.resultWithdrawn s.spare = true

theorem State.endIsolatedProbe_of_takenBack {g : GivenResult} (hx : s.pbc.pumps[j]? = some x) (h : TakenBack s j x g)
    (i : Nat) :
    (s.endIsolatedProbe j).flt.pumps[i]? =
      s.flt.pumps[i]?.map fun e => if i = j then PumpEntry.withdraw g.before e else e := by
  obtain ⟨hp, hg, hw⟩ := h
  rw [State.endIsolatedProbe_of_probe hx hp, (State.probeTaken_of_withdrawable hg).2 i]
  simp only [hw, and_true]

theorem State.endIsolatedProbe_of_not_takenBack (hx : s.pbc.pumps[j]? = some x) (h : ∀ g, ¬ TakenBack s j x g) :
    (s.endIsolatedProbe j).flt.pumps = s.flt.pumps := by
  by_cases hp : x.state = .probe
  · rw [State.endIsolatedProbe_of_probe hx hp]
    by_cases hg : ∃ g, Withdrawable s j g
    · obtain ⟨g, hg⟩ := hg
      have hstands : Config.resultWithdrawn s.spare = false := Bool.eq_false_iff.2 fun hw => h g ⟨hp, hg, hw⟩
      refine List.ext_getElem? fun i => ?_
      rw [(State.probeTaken_of_withdrawable hg).2 i]
      simp [hstands]
    · exact (State.probeTaken_of_not_withdrawable (not_exists.1 hg)).2
  · rw [State.endIsolatedProbe_of_not_probe hx hp]

theorem State.endIsolatedProbe_pumpEntry_of_ne {i : Nat} (hx : s.pbc.pumps[j]? = some x) (hne : i ≠ j) :
    (s.endIsolatedProbe j).flt.pumps[i]? = s.flt.pumps[i]? := by
  by_cases h : ∃ g, TakenBack s j x g
  · obtain ⟨g, hg⟩ := h
    rw [State.endIsolatedProbe_of_takenBack hx hg]
    simp [hne]
  · rw [State.endIsolatedProbe_of_not_takenBack hx (not_exists.1 h)]

theorem State.isolatePump_pumpEntry_of_ne {i : Nat} (hx : s.pbc.pumps[j]? = some x) (hne : i ≠ j) :
    (s.isolatePump j).flt.pumps[i]? = s.flt.pumps[i]? := by
  rw [State.isolatePump_pumpEntries, List.getElem?_modify, ← State.endIsolatedProbe_pumpEntry_of_ne hx hne]
  simp [hne.symm]

/-- The entry is latched after the end of the probe, so that a result taken back does not undo the latching. -/
theorem State.isolatePump_pumpEntry {e : PumpEntry} (he : (s.endIsolatedProbe j).flt.pumps[j]? = some e) :
    (s.isolatePump j).flt.pumps[j]? = some (e.grant s.cfl.clock) := by
  rw [State.isolatePump_pumpEntries, List.getElem?_modify, he]
  simp

end

/-- Settles O35: a refusal only takes the request; a grant ends the probe on the pump, if it has one, and puts the pump OFF. -/
theorem pumpIsolationIsGrantedOrRefused : Obligations.PumpIsolationIsGrantedOrRefused := by
  intro j rest x s hr hx c lit latched withdrawn last
  have hlast : s.mustKeep j = true ↔ last := State.mustKeep_iff s j
  refine ⟨fun h => ?refused, fun hlit hunlatched => ?granted⟩
  case refused =>
    rw [exec_pumpIsolationRequest hr hx, if_pos (h.imp_left hlast.2)]
    rfl
  case granted =>
    have hgrant : ¬ (s.mustKeep j = true ∨ x.latch = true) := by simp [hlast, hlit, hunlatched]
    rw [exec_pumpIsolationRequest hr hx, if_neg hgrant]
    let u := s.taking rest
    have hux : u.pbc.pumps[j]? = some x := hx
    have hoff := State.isolatePump_off hux
    have hends (hp : x.state = .probe) : EndsAs (u.probeTaken j) (u.isolatePump j) := by
      rw [← State.endIsolatedProbe_of_probe hux hp]
      exact ⟨rfl, rfl, rfl⟩
    refine ⟨u.isolatePump j, rfl, State.isolatePump_frame u j, State.isolatePump_markerFollows u j,
      fun m hm => State.isolatePump_marker hux hm, fun i e hi => ?entry, hoff, ?carrying,
      fun i y hne hy => ?others, fun pr w hs hpr hp => (hends hp).probeEnded hs hpr,
      fun hp hs => (hends hp).endedLate hs, fun g hp hg => ?spent, fun hg => ?unspent, fun hp => ?noProbe⟩
    case entry =>
      have hlatched (e : PumpEntry) : e.grant s.cfl.clock = latched e := PumpEntry.grant_eq s.cfl.clock e
      refine ⟨fun hne => (State.isolatePump_pumpEntry_of_ne hux hne).trans hi, ?_, ?_⟩
      · rintro rfl hstands
        rw [← hlatched]
        exact State.isolatePump_pumpEntry (by rwa [State.endIsolatedProbe_of_not_takenBack hux hstands])
      · rintro g rfl hback
        rw [← hlatched]
        refine State.isolatePump_pumpEntry ((State.endIsolatedProbe_of_takenBack hux hback i).trans ?_)
        rw [show u.flt.pumps[i]? = some e from hi, Option.map_some, if_pos rfl]
        rfl
    case carrying =>
      rw [State.carrying, Pbc.isIn_of_getElem? hoff]
      rfl
    case others =>
      obtain ⟨z, hz, hsteered⟩ := State.isolatePump_steered (s := u) (j := j) hy
      rw [if_neg hne.symm] at hsteered
      exact ⟨z, hz, hsteered⟩
    case spent =>
      rw [State.isolatePump_spare, State.endIsolatedProbe_of_probe hux hp]
      exact (State.probeTaken_of_withdrawable (s := u) hg).1
    case unspent =>
      rw [State.isolatePump_spare]
      by_cases hp : x.state = .probe
      · rw [State.endIsolatedProbe_of_probe hux hp]
        exact (State.probeTaken_of_not_withdrawable (s := u) fun g => hg g hp).1
      · rw [State.endIsolatedProbe_of_not_probe hux hp]
        rfl
    case noProbe =>
      rw [State.isolatePump_pru, State.isolatePump_settle, State.endIsolatedProbe_of_not_probe hux hp]
      exact ⟨rfl, rfl⟩

end Sys2Proof.Machine
end

section
/-! The commissioning record as the load reads it: the bytes of words 1 to N (R164), the end-around sum (R166), and what the
load makes of a body that was read. -/

namespace Sys2Proof.Machine

/-! ### Words from bytes (R164) -/

theorem wordsOf_length : ∀ bytes : List Byte, (wordsOf bytes).length = bytes.length / 2
  | [] => rfl
  | [_] => by simp [wordsOf]
  | _ :: _ :: rest => by simp only [wordsOf, List.length_cons, wordsOf_length rest]; omega

theorem wordsOf_getElem? : ∀ (bytes : List Byte) (i : Nat) (hi lo : Byte), bytes[2 * i]? = some hi →
    bytes[2 * i + 1]? = some lo → (wordsOf bytes)[i]? = some (hi ++ lo)
  | [], _, _, _, hhi, _ => by simp at hhi
  | [_], _, _, _, _, hlo => by simp at hlo
  | _ :: _ :: _, 0, _, _, hhi, hlo => by cases hhi; cases hlo; rfl
  | _ :: _ :: rest, i + 1, hi, lo, hhi, hlo => wordsOf_getElem? rest i hi lo hhi hlo

/-! ### The end-around sum (R166) -/

/-- The end-around sum in closed form, for the plain sum: multiples of 0xFFFF are cast out, but for a sum that is not 0 the
remainder 0 reads 0xFFFF. -/
def endAround (total : Nat) : Nat := if total = 0 then 0 else (total - 1) % 0xFFFF + 1

theorem endAround_le (total : Nat) : endAround total ≤ 0xFFFF := by
  unfold endAround; split <;> omega

/-- One addition of `onesSum`: the carry out of the top bit added back in at the bottom. -/
def addAround (acc : Nat) (w : Word) : Nat :=
  if acc + w.toNat < 0x10000 then acc + w.toNat else acc + w.toNat - 0xFFFF

theorem addAround_endAround (total : Nat) (w : Word) :
    addAround (endAround total) w = endAround (total + w.toNat) := by
  have hw := w.isLt
  unfold addAround endAround
  split_ifs <;> omega

theorem foldl_addAround (ws : List Word) (total : Nat) :
    ws.foldl addAround (endAround total) = endAround (total + (ws.map BitVec.toNat).sum) := by
  induction ws generalizing total with
  | nil => rfl
  | cons w ws ih => rw [List.foldl_cons, addAround_endAround, ih, List.map_cons, List.sum_cons, Nat.add_assoc]

theorem onesSum_eq_endAround (ws : List Word) : onesSum ws = endAround (ws.map BitVec.toNat).sum := by
  have hzero := foldl_addAround ws 0
  rwa [Nat.zero_add] at hzero

theorem endAround_add_inverse (total : Nat) :
    endAround (total + (~~~ BitVec.ofNat 16 (endAround total)).toNat) = 0xFFFF := by
  have hinverse : (~~~ BitVec.ofNat 16 (endAround total)).toNat = 0xFFFF - endAround total := by
    have hle := endAround_le total
    rw [BitVec.toNat_not, BitVec.toNat_ofNat]
    omega
  rw [hinverse]
  unfold endAround
  split_ifs <;> omega

/-! ### The body read, and what CHECKING makes of it (R164, R166, R167) -/

/-- The loader when the sequential read has returned the bytes of words 1 to N. -/
def Cfl.bodyRead (header : Word) (bytes : List Byte) (x : Cfl) : Cfl :=
  { x with bus := busTransaction 2 (.data bytes), image := header :: wordsOf bytes }

theorem exec_readingBody_data {s : State} {header : Word} {bytes : List Byte} (hheld : s.cfl.resetHeld = false)
    (hphase : s.cfl.phase = .readingBody) (himage : s.cfl.image = [header])
    (hlength : bytes.length = 2 * (header.toNat % 256)) :
    exec (.readingBody (.data bytes)) s =
      .next { s with cfl := (s.cfl.bodyRead header bytes).check s.cfl.strap } := by
  have hbody : 2 * s.cfl.bodyLength = bytes.length := by
    simp [Cfl.bodyLength, field, wordAt, himage, hlength]
  simp [exec, execReadingBody, Cfl.isLoading, Cfl.bodyRead, hheld, hphase, himage, hbody]

section
variable {strap : Role} {x : Cfl}

theorem Cfl.check_of_badSum (h : onesSum x.image ≠ 0xFFFF) : x.check strap = x.fail .badChecksum := if_pos h

theorem Cfl.check_of_failure (h : onesSum x.image = 0xFFFF) {k : Nat}
    (hk : firstFailure (readCommissioning x.image) strap = some k) : x.check strap = x.fail (.badField k) := by
  simp [Cfl.check, h, hk]

theorem Cfl.check_of_pass (h : onesSum x.image = 0xFFFF)
    (hpass : firstFailure (readCommissioning x.image) strap = none) :
    x.check strap = { x with phase := .sampling } := by
  simp [Cfl.check, h, hpass]

/-- What CHECKING leaves as it is, however it ends. -/
theorem Cfl.check_keeps (strap : Role) (x : Cfl) :
    (x.check strap).resetHeld = x.resetHeld ∧ (x.check strap).strap = x.strap ∧ (x.check strap).valid = x.valid ∧
      (x.check strap).clock = x.clock := by
  unfold Cfl.check
  split
  · exact ⟨rfl, rfl, rfl, rfl⟩
  · split <;> exact ⟨rfl, rfl, rfl, rfl⟩

end

/-- Settles O8: `onesSum` is the closed form (`onesSum_eq_endAround`), so the branch that CHECKING takes is the closed form's
as well. -/
theorem checksumMustBeAllOnes : Obligations.ChecksumMustBeAllOnes := by
  unfold Obligations.ChecksumMustBeAllOnes
  intro endAround total
  refine ⟨fun ws => ⟨onesSum_eq_endAround ws, ?inverse⟩, ?load⟩
  case inverse =>
    have htotal : total (ws ++ [~~~ BitVec.ofNat 16 (endAround (total ws))]) =
        total ws + (~~~ BitVec.ofNat 16 (endAround (total ws))).toNat := by simp [total]
    rw [htotal]
    exact endAround_add_inverse (total ws)
  case load =>
    intro bytes header s hheld hphase himage hlength image
    obtain ⟨hreset, hstrap, hvalid, hclock⟩ := Cfl.check_keeps s.cfl.strap (s.cfl.bodyRead header bytes)
    have hsum : onesSum (s.cfl.bodyRead header bytes).image = endAround (total image) := onesSum_eq_endAround image
    refine ⟨_, exec_readingBody_data hheld hphase himage hlength, ?_, hreset.trans hheld, hstrap, hvalid, hclock,
      fun hbad => ?bad, fun hgood => ?good⟩
    · simp [image, wordsOf_length, hlength]
    case bad =>
      rw [Cfl.check_of_badSum (hsum ▸ hbad)]
      exact ⟨rfl, rfl, rfl⟩
    case good =>
      have hones := hsum.trans hgood
      cases hk : firstFailure (readCommissioning (s.cfl.bodyRead header bytes).image) s.cfl.strap with
      | none => exact .inl (by rw [Cfl.check_of_pass hones hk])
      | some k => exact .inr ⟨k, by rw [Cfl.check_of_failure hones hk]; rfl⟩

end Sys2Proof.Machine
end

section
/-! The word map of the commissioning record (R190), in the arithmetic of its words, and the sixteen field validity checks
(R167). -/

namespace Sys2Proof.Machine

/-! ### Fields of a word (R190) -/

theorem field_eq (hi lo : Nat) (w : Word) : field hi lo w = w.toNat / 2 ^ lo % 2 ^ (hi + 1 - lo) := by
  rw [field, Nat.shiftRight_eq_div_pow]

theorem field_top (w : Word) {lo : Nat} (hlo : lo ≤ 16) : field 15 lo w = w.toNat / 2 ^ lo := by
  have hlt : w.toNat < 2 ^ lo * 2 ^ (15 + 1 - lo) := by
    rw [← Nat.pow_add, Nat.add_sub_cancel' hlo]
    exact w.isLt
  rw [field_eq, Nat.mod_eq_of_lt (Nat.div_lt_of_lt_mul hlt)]

theorem field_bottom (w : Word) (hi : Nat) : field hi 0 w = w.toNat % 2 ^ (hi + 1) := by
  rw [field_eq, Nat.pow_zero, Nat.div_one, Nat.sub_zero]

theorem field_high (w : Word) : field 15 8 w = w.toNat / 256 := field_top w (by decide)
theorem field_low (w : Word) : field 7 0 w = w.toNat % 256 := field_bottom w 7

theorem roleOfCode_field (w : Word) :
    roleOfCode (field 7 7 w) = if w.toNat.testBit 7 then .terminal else .repeater := by
  rw [roleOfCode, show field 7 7 w = w.toNat / 2 ^ 7 % 2 from field_eq 7 7 w, Nat.mod_mod,
    Nat.testBit_eq_decide_div_mod_eq]
  obtain hbit | hbit := Nat.mod_two_eq_zero_or_one (w.toNat / 2 ^ 7)
  · rw [if_pos hbit, hbit]
    rfl
  · rw [if_neg (by omega), hbit]
    rfl

/-- Two's complement, as the map reads it. -/
def signedNat (v : Nat) : Int := if v < 2 ^ 15 then (v : Int) else (v : Int) - 2 ^ 16

theorem toInt_eq_signedNat (w : Word) : w.toInt = signedNat w.toNat := by
  rw [BitVec.toInt_eq_toNat_cond, signedNat]
  split_ifs <;> omega

theorem byteOf_top_getLsbD (w : Word) (a : Nat) :
    (byteOf (field 15 8 w)).getLsbD a = (w.toNat / 256).testBit a := by
  rw [field_high, byteOf, BitVec.getLsbD_ofNat]
  by_cases ha : a < 8
  · simp [ha]
  · have hbyte : w.toNat / 256 < 2 ^ a :=
      (Nat.div_lt_of_lt_mul w.isLt : w.toNat / 256 < 2 ^ 8).trans_le (Nat.pow_le_pow_right (by decide) (by omega))
    simp [ha, Nat.testBit_lt_two_pow hbyte]

/-! ### Lists of the record -/

theorem Commissioning.feeds_iff {c : Commissioning} {j a : Nat} :
    c.feeds j a = true ↔ a < 2 * c.n ∧ (c.pump j).mask.getLsbD a = true := by
  rw [Commissioning.feeds, Commissioning.ampCount, Bool.and_eq_true, decide_eq_true_eq]

theorem Commissioning.intersects_iff {c : Commissioning} {i j : Nat} :
    c.intersects i j = true ↔ ∃ a, c.feeds i a = true ∧ c.feeds j a = true := by
  simp only [Commissioning.intersects, List.any_eq_true, List.mem_range, Bool.and_eq_true]
  refine exists_congr fun a => ⟨And.right, fun h => ⟨(Commissioning.feeds_iff.1 h.1).1, h⟩⟩

theorem Commissioning.pumps_getElem? {c : Commissioning} {j : Nat} (hj : j < c.pumps.length) :
    c.pumps[j]? = some (c.pump j) := by
  simp [Commissioning.pump, hj]

theorem Commissioning.feeds_of_length_le {c : Commissioning} {j : Nat} (hj : c.pumps.length ≤ j) (a : Nat) :
    c.feeds j a = false := by
  simp [Commissioning.feeds, Commissioning.pump, hj]

section
variable (image : List Word)

theorem readCommissioning_n : (readCommissioning image).n = (wordAt image 1).toNat / 16 % 8 := field_eq 6 4 _
theorem readCommissioning_m : (readCommissioning image).m = (wordAt image 1).toNat % 8 := field_bottom _ 2

theorem readCommissioning_refs_length : (readCommissioning image).refs.length = 2 * (readCommissioning image).n := by
  simp [readCommissioning]

theorem readCommissioning_pumps_length : (readCommissioning image).pumps.length = (readCommissioning image).m := by
  simp [readCommissioning]

theorem readCommissioning_pump {j : Nat} (hj : j < (readCommissioning image).m) :
    (readCommissioning image).pump j = readPump image (readCommissioning image).n j := by
  have hrange : (List.range (readCommissioning image).m)[j]? = some j := List.getElem?_range hj
  have hread : (readCommissioning image).pumps[j]? = some (readPump image (readCommissioning image).n j) :=
    List.getElem?_map.trans (congrArg _ hrange)
  rw [Commissioning.pump, List.getD_eq_getElem?_getD, hread, Option.getD_some]

theorem readCommissioning_feeds {j : Nat} (hj : j < (readCommissioning image).m) (a : Nat) :
    (readCommissioning image).feeds j a =
      (decide (a < 2 * (readCommissioning image).n) &&
        ((wordAt image (25 + 8 * (readCommissioning image).n + 5 * j)).toNat / 256).testBit a) := by
  rw [Commissioning.feeds, Commissioning.ampCount, readCommissioning_pump image hj, ← byteOf_top_getLsbD]
  rfl

/-- The four words of the interest vector hold the sectors 0 to 63. -/
theorem readCommissioning_interested {q : Nat} (hq : q ≤ 254) :
    (readCommissioning image).interested q =
      (wordAt image (4 + (q - 1) / 4 / 16)).toNat.testBit ((q - 1) / 4 % 16) := by
  have hword : ∀ i < 4, (readCommissioning image).interest.getD i 0 = wordAt image (4 + i)
    | 0, _ | 1, _ | 2, _ | 3, _ => rfl
  rw [Commissioning.interested, hword _ (by omega), BitVec.testBit_toNat]

theorem readReferences_eq (a : Nat) :
    let signed (i : Nat) : Int := signedNat (wordAt image i).toNat
    readReferences image a = { gref := signed (25 + 4 * a), oref := signed (26 + 4 * a), lref := signed (27 + 4 * a),
                               lskip := signed (28 + 4 * a) } := by
  simp only [readReferences, toInt_eq_signedNat]

theorem readPump_eq (n j : Nat) :
    let w (i : Nat) : Nat := (wordAt image (25 + 8 * n + 5 * j + i)).toNat
    readPump image n j =
      { mask := BitVec.ofNat 8 (w 0 / 256), stepSize := w 0 % 256, remapOff := (w 1).testBit 15,
        interval := w 1 / 2 ^ 10 % 32, base := w 1 % 2 ^ 10, retain := (w 2).testBit 15, floor := w 2 % 2 ^ 10,
        ceiling := w 3 % 2 ^ 10, depth := w 4 % 2 ^ 10 } := by
  simp only [readPump, byteOf, field_high, field_bottom, field_eq 14 10, BitVec.testBit_toNat]
  rfl

end

/-! ### The checks, one by one (R167) -/

/-- Check `k`, of 1 to 16, passes. -/
def CheckPasses (c : Commissioning) (strap : Role) (k : Nat) : Prop := (fieldChecks c strap)[k - 1]? = some true

theorem checkPasses_iff {c : Commissioning} {strap : Role} {k : Nat} {b : Bool}
    (h : (fieldChecks c strap)[k - 1]? = some b) : CheckPasses c strap k ↔ b = true := by
  rw [CheckPasses, h, Option.some_inj]

theorem firstFailure_eq_some {c : Commissioning} {strap : Role} {k : Nat} (h1 : 1 ≤ k) (h16 : k ≤ 16)
    (hfails : ¬ CheckPasses c strap k) (hbefore : ∀ i, 1 ≤ i → i < k → CheckPasses c strap i) :
    firstFailure c strap = some k := by
  have hlt : k - 1 < (fieldChecks c strap).length := Nat.lt_of_lt_of_le (by omega) (le_refl 16)
  have hfirst : (fieldChecks c strap).findIdx? (· == false) = some (k - 1) := by
    refine List.findIdx?_eq_some_iff_getElem.2 ⟨hlt, ?_, fun j hj => ?_⟩
    · simpa [CheckPasses, hlt] using hfails
    · have hj' := hbefore (j + 1) (by omega) (by omega)
      simpa [CheckPasses, List.getElem?_eq_some_iff] using (List.getElem?_eq_some_iff.1 hj').2
  rw [firstFailure, hfirst, Option.map_some, Nat.sub_add_cancel h1]

theorem firstFailure_eq_none {c : Commissioning} {strap : Role}
    (hall : ∀ i, 1 ≤ i → i ≤ 16 → CheckPasses c strap i) : firstFailure c strap = none := by
  have hnone : (fieldChecks c strap).findIdx? (· == false) = none := by
    refine List.findIdx?_eq_none_iff.2 fun b hb => ?_
    obtain ⟨i, hi, rfl⟩ := List.mem_iff_getElem.1 hb
    have hi' := hall (i + 1) (by omega) hi
    simpa using (List.getElem?_eq_some_iff.1 hi').2
  rw [firstFailure, hnone, Option.map_none]

/-- `lo` to `hi`, as the table of R167 writes it. -/
def Within (lo hi x : Int) : Prop := lo ≤ x ∧ x ≤ hi

@[simp] theorem inRange_iff (lo hi x : Int) : inRange lo hi x = true ↔ Within lo hi x := by simp [inRange, Within]

/-- A count is never below 0. -/
theorem natCast_le_iff_within {x hi : Nat} : x ≤ hi ↔ Within 0 hi x := by simp [Within]

theorem all_iff_getElem? {α : Type} {l : List α} {p : α → Bool} {len : Nat} (hlen : l.length = len) :
    l.all p = true ↔ ∀ i < len, ∃ x, l[i]? = some x ∧ p x = true := by
  subst hlen
  rw [List.all_eq_true, List.forall_mem_iff_getElem]
  exact forall₂_congr fun i hi => by simp [hi]

section
variable {c : Commissioning} {strap : Role}

theorem roleCheck_iff : CheckPasses c strap 1 ↔ c.role = strap := by
  rw [checkPasses_iff rfl, beq_iff_eq]

theorem terminalsCheck_iff : CheckPasses c strap 2 ↔ 1 ≤ c.west ∧ c.west < c.east ∧ c.east ≤ 254 := by
  rw [checkPasses_iff rfl]
  simp [and_assoc]

theorem positionCheck_iff : CheckPasses c strap 3 ↔
    (c.role = .repeater → c.west < c.position ∧ c.position < c.east) ∧
      (c.role = .terminal → c.position = c.west ∨ c.position = c.east) := by
  rw [checkPasses_iff rfl]
  cases c.role <;> simp

theorem countsCheck_iff : CheckPasses c strap 4 ↔ Within 1 4 c.n ∧ Within 1 4 c.m ∧ Within 1 c.n c.supPair := by
  rw [checkPasses_iff rfl]
  simp [and_assoc]

theorem lengthCheck_iff : CheckPasses c strap 5 ↔ c.length = 25 + 8 * c.n + 5 * c.m := by
  rw [checkPasses_iff rfl, beq_iff_eq]

theorem shiftCheck_iff : CheckPasses c strap 6 ↔ c.shift ≤ 6 := by
  rw [checkPasses_iff rfl, decide_eq_true_eq]

theorem lightCheck_iff : CheckPasses c strap 7 ↔ -6000 < c.td ∧ c.td < c.tf ∧ c.tf < c.tl ∧ c.tl ≤ 2950 := by
  rw [checkPasses_iff rfl]
  simp [and_assoc]

theorem stalenessCheck_iff : CheckPasses c strap 8 ↔ Within 4 60 c.stale := by
  rw [checkPasses_iff rfl, inRange_iff]

/-- The even numbers from 2 to 20 are the doubles of 1 to 10. -/
theorem ditherCheck_iff : CheckPasses c strap 9 ↔ ∃ i : Int, Within 1 10 i ∧ (c.dither : Int) = 2 * i := by
  rw [checkPasses_iff rfl, Bool.and_eq_true, decide_eq_true_eq, inRange_iff]
  unfold Within
  constructor
  · rintro ⟨heven, hlo, hhi⟩
    exact ⟨(c.dither / 2 : Nat), by omega⟩
  · rintro ⟨i, ⟨hlo, hhi⟩, hi⟩
    omega

theorem evidenceCheck_iff : CheckPasses c strap 10 ↔
    Within (-2000) 2000 c.tsHi ∧ Within (-2000) 2000 c.tsLo ∧ Within (-2000) 2000 c.tgHi ∧
      Within (-2000) 2000 c.tgLo ∧ Within 0 2000 c.tr ∧ c.tsLo < c.tsHi ∧ c.tgLo < c.tgHi := by
  rw [checkPasses_iff rfl]
  simp [natCast_le_iff_within, and_assoc]

theorem scoringCheck_iff : CheckPasses c strap 11 ↔
    Within 1 15 c.ws ∧ Within 1 15 c.wg ∧ Within 1 63 c.wp ∧ Within 1 255 c.ls ∧ Within 1 255 c.ld ∧
      Within 0 254 c.lr ∧ c.ls ≤ c.ld ∧ c.lr < c.ld ∧ Within 0 2000 c.ti := by
  rw [checkPasses_iff rfl]
  simp [natCast_le_iff_within, and_assoc]

theorem referencesCheck_iff (hrefs : c.refs.length = 2 * c.n) : CheckPasses c strap 12 ↔
    ∀ a < 2 * c.n, ∃ r, c.refs[a]? = some r ∧ Within (-9000) 9000 r.gref ∧ Within (-6000) 3000 r.oref ∧
      Within (-1000) 6000 r.lref ∧ Within (-1000) 6000 r.lskip := by
  rw [checkPasses_iff rfl, all_iff_getElem? hrefs]
  simp only [referencesValid, Bool.and_eq_true, inRange_iff, and_assoc]

theorem pumpsCheck_iff (hpumps : c.pumps.length = c.m) : CheckPasses c strap 13 ↔
    ∀ j < c.m, ∃ p, c.pumps[j]? = some p ∧ p.floor ≤ p.base ∧ p.base ≤ p.ceiling ∧ p.ceiling ≤ 1000 ∧
      Within 1 255 p.stepSize ∧ Within 1 500 p.depth := by
  rw [checkPasses_iff rfl, all_iff_getElem? hpumps]
  simp only [pumpValid, Bool.and_eq_true, decide_eq_true_eq, inRange_iff, and_assoc]

/-- A pump below `m` feeds amplifier `a`, in the words of the record. -/
theorem exists_feeds_iff (hpumps : c.pumps.length = c.m) (a : Nat) :
    (∃ j < c.m, c.feeds j a = true) ↔
      a < 2 * c.n ∧ ∃ j p, j < c.m ∧ c.pumps[j]? = some p ∧ p.mask.getLsbD a = true := by
  simp only [Commissioning.feeds_iff]
  constructor
  · rintro ⟨j, hj, ha, hmask⟩
    exact ⟨ha, j, c.pump j, hj, Commissioning.pumps_getElem? (hj.trans_eq hpumps.symm), hmask⟩
  · rintro ⟨ha, j, p, hj, hp, hmask⟩
    cases (Commissioning.pumps_getElem? (hj.trans_eq hpumps.symm)).symm.trans hp
    exact ⟨j, hj, ha, hmask⟩

theorem supervisoryCheck_iff (hpumps : c.pumps.length = c.m) : CheckPasses c strap 14 ↔
    ∀ a, a = 2 * (c.supPair - 1) ∨ a = 2 * (c.supPair - 1) + 1 →
      a < 2 * c.n ∧ ∃ j p, j < c.m ∧ c.pumps[j]? = some p ∧ p.mask.getLsbD a = true := by
  rw [checkPasses_iff rfl, Bool.and_eq_true]
  simp only [List.any_eq_true, List.mem_range, exists_feeds_iff hpumps, forall_eq_or_imp, forall_eq, Commissioning.supAmp]

theorem probeCheck_iff : CheckPasses c strap 15 ↔
    Within 0 255 c.c ∧ Within 0 255 c.rinc ∧ (c.interval = 0 ∨ Within 60 3600 c.interval) ∧ Within 1 10 c.window ∧
      Within 1 1000 c.rmin := by
  rw [checkPasses_iff rfl]
  simp [natCast_le_iff_within, and_assoc]

theorem queueCheck_iff : CheckPasses c strap 16 ↔ Within 0 255 c.tq ∧ Within 0 64 c.lowSpace := by
  rw [checkPasses_iff rfl]
  simp [natCast_le_iff_within]

end

/-- Settles O9: the map is read field by field, each check of the table is one of `fieldChecks` in its place, and CHECKING
takes the first that fails. -/
theorem sixteenChecksDecideARecord : Obligations.SixteenChecksDecideARecord := by
  unfold Obligations.SixteenChecksDecideARecord
  refine ⟨wordsOf_getElem?, fun _ => rfl, ?map, ?load⟩
  case map =>
    intro image c w signed n m pump hlong
    have hn : c.n = n := readCommissioning_n image
    have hm : c.m = m := readCommissioning_m image
    have hpumps : c.pumps.length = m := (readCommissioning_pumps_length image).trans hm
    refine ⟨field_high _, field_low _, field_high _, roleOfCode_field _, hn, hm, field_high _, field_low _,
      field_high _, field_low _, fun q _ hq => readCommissioning_interested image hq,
      toInt_eq_signedNat _, toInt_eq_signedNat _, toInt_eq_signedNat _, toInt_eq_signedNat _, toInt_eq_signedNat _,
      toInt_eq_signedNat _, toInt_eq_signedNat _, rfl, field_top _ (by decide), field_eq 11 8 _,
      (BitVec.testBit_toNat _).symm, (BitVec.testBit_toNat _).symm, field_bottom _ 5, field_high _, field_low _,
      field_high _, field_low _, rfl, field_high _, field_low _, rfl, field_high _, field_low _, rfl, field_high _,
      field_low _, ?refs, ?pumps, ?supE, ?supW, fun j hj => ⟨?pump, fun a => ?fed⟩,
      fun j a hj => Commissioning.feeds_of_length_le (hpumps.trans_le hj) a, fun _ _ => Commissioning.intersects_iff⟩
    case refs =>
      rw [← hn]
      exact List.map_congr_left fun a _ => readReferences_eq image a
    case pumps =>
      rw [← hm]
      simp only [pump, ← hn]
      exact List.map_congr_left fun j _ => readPump_eq image c.n j
    case supE => exact congrArg (fun k => 2 * (k - 1)) (field_high _)
    case supW => exact congrArg (fun k => 2 * (k - 1) + 1) (field_high _)
    case pump => exact Commissioning.pumps_getElem? (hj.trans_eq hpumps.symm)
    case fed =>
      rw [readCommissioning_feeds image (hm ▸ hj), hn]
      rfl
  case load =>
    intro bytes header s hheld hphase himage hlength image hsum c within passes
    have hrefs : c.refs.length = 2 * c.n := readCommissioning_refs_length image
    have hpumps : c.pumps.length = c.m := readCommissioning_pumps_length image
    have hiff : ∀ k, 1 ≤ k → k ≤ 16 → (CheckPasses c s.cfl.strap k ↔ passes k) := by
      intro k h1 h16
      match k with
      | 1 => exact roleCheck_iff
      | 2 => exact terminalsCheck_iff
      | 3 => exact positionCheck_iff
      | 4 => exact countsCheck_iff
      | 5 => exact lengthCheck_iff
      | 6 => exact shiftCheck_iff
      | 7 => exact lightCheck_iff
      | 8 => exact stalenessCheck_iff
      | 9 => exact ditherCheck_iff
      | 10 => exact evidenceCheck_iff
      | 11 => exact scoringCheck_iff
      | 12 => exact referencesCheck_iff hrefs
      | 13 => exact pumpsCheck_iff hpumps
      | 14 => exact supervisoryCheck_iff hpumps
      | 15 => exact probeCheck_iff
      | 16 => exact queueCheck_iff
      | k + 17 => omega
    refine ⟨_, exec_readingBody_data hheld hphase himage hlength, fun k h1 h16 hfails hbefore => ?fails,
      fun hall => ?pass⟩
    case fails =>
      have hk : firstFailure c s.cfl.strap = some k :=
        firstFailure_eq_some h1 h16 (mt (hiff k h1 h16).1 hfails) fun i hi hik =>
          (hiff i hi (hik.le.trans h16)).2 (hbefore i hi hik)
      rw [Cfl.check_of_failure (x := s.cfl.bodyRead header bytes) hsum hk]
      exact ⟨rfl, rfl, rfl, rfl⟩
    case pass =>
      have hnone : firstFailure c s.cfl.strap = none :=
        firstFailure_eq_none fun i h1 h16 => (hiff i h1 h16).2 (hall i h1 h16)
      rw [Cfl.check_of_pass (x := s.cfl.bodyRead header bytes) hsum hnone]
      exact ⟨rfl, rfl, rfl, rfl⟩

end Sys2Proof.Machine
end

section
/-! WRITE_DIRECTIVE (R178): the two refusals, and the directive an accepted write loads and offers as a record (R181). -/

namespace Sys2Proof.Machine

/-! ### The port, and the role that a commissioned terminal has (R167, R175) -/

theorem State.portActive_iff (s : State) : s.portActive = true ↔ s.cfl.resetHeld = false ∧ s.cfl.strap = .terminal := by
  simp [State.portActive]

theorem checkPasses_of_firstFailure_eq_none {c : Commissioning} {strap : Role} {k : Nat}
    (hnone : firstFailure c strap = none) (h1 : 1 ≤ k) (h16 : k ≤ 16) : CheckPasses c strap k := by
  have hlt : k - 1 < (fieldChecks c strap).length := Nat.lt_of_lt_of_le (by omega) (le_refl 16)
  have hall : ∀ b ∈ fieldChecks c strap, (b == false) = false :=
    List.findIdx?_eq_none_iff.1 (Option.map_eq_none_iff.1 hnone)
  have hpass := hall _ (List.getElem_mem hlt)
  rw [checkPasses_iff (List.getElem?_eq_getElem hlt)]
  simpa using hpass

/-- The first field validity check: a station commissioned for the strap sampled has the strap's role (R167). -/
theorem State.commissioned_role {s : State} (h : s.commissioned) : s.cfg.role = s.cfl.strap :=
  roleCheck_iff.1 (checkPasses_of_firstFailure_eq_none h (le_refl 1) (by decide))

theorem Loaded.role_eq_strap {s : State} (hload : Loaded s) (hvalid : s.cfl.valid = true) : s.cfg.role = s.cfl.strap := by
  obtain ⟨-, -, -, hchecked, -, -⟩ := hload
  exact State.commissioned_role (hchecked (.inl hvalid))

/-! ### What a write loads and offers (R178, R181) -/

theorem DirectiveKind.ofCode_eq_of_code {v : Nat} {k : DirectiveKind} (h : k.code = v % 4) :
    DirectiveKind.ofCode v = k := by
  cases k <;> (unfold DirectiveKind.ofCode; rw [← h]; rfl)

theorem State.offerAll_of_terminal {s : State} (hvalid : s.cfl.valid = true) (hrole : s.cfg.role = .terminal)
    (origin : Nat) (changes : List Change) :
    s.offerAll origin changes =
      { s with tpt := changes.foldl (fun t ch => t.offer s.cfg s.now s.cfl.clock origin ch) s.tpt } :=
  if_pos (by simp [hvalid, hrole])

/-- The port with `d` written: the register's content replaced and the id counter moved on (R178). -/
def Tpt.load (d : Directive) (t : Tpt) : Tpt := { t with directive := some d, idCounter := (t.idCounter + 1) % 16 }

section
variable {s : State} {kind target : Byte}

theorem exec_writeDirective_of_invalid (hport : s.portActive = true) (hinvalid : s.cfl.valid = false) :
    exec (.writeDirective kind target) s = .next (s.respond ⟨.notValid, []⟩) := by
  simp [exec, execWriteDirective, hport, hinvalid]

theorem exec_writeDirective_of_target_zero (hport : s.portActive = true) (hvalid : s.cfl.valid = true) :
    exec (.writeDirective kind 0) s = .next (s.respond ⟨.badTarget, []⟩) := by
  simp [exec, execWriteDirective, hport, hvalid]

theorem exec_writeDirective_accepted (hport : s.portActive = true) (hvalid : s.cfl.valid = true) (htarget : target ≠ 0) :
    let d : Directive := ⟨DirectiveKind.ofCode kind.toNat, target.toNat, s.tpt.idCounter⟩
    exec (.writeDirective kind target) s =
      .next ((({ s with tpt := s.tpt.load d } : State).offerAll s.cfg.position
        [.directive s.tpt.directive d]).respond Response.empty) := by
  simp only [exec, execWriteDirective, Tpt.load, hport, hvalid, htarget, Bool.not_true, Bool.false_eq_true, if_true, if_false]

end

/-- Settles O44: the refusals are the first two branches of the command; past them the role is TERMINAL by the first field
validity check, so that the record of the write is offered. -/
theorem writeDirectiveTakesANewId : Obligations.WriteDirectiveTakesANewId := by
  intro kind target s hload hheld hstrap
  have hport : s.portActive = true := s.portActive_iff.2 ⟨hheld, hstrap⟩
  refine ⟨exec_writeDirective_of_invalid hport, fun hvalid hzero => ?zero, fun hvalid htarget d hdt hdi hdk => ?accepted⟩
  case zero =>
    subst hzero
    exact exec_writeDirective_of_target_zero hport hvalid
  case accepted =>
    have hd : d = ⟨DirectiveKind.ofCode kind.toNat, target.toNat, s.tpt.idCounter⟩ := by
      rw [DirectiveKind.ofCode_eq_of_code hdk, ← hdt, ← hdi]
    have hrole : s.cfg.role = .terminal := (hload.role_eq_strap hvalid).trans hstrap
    have hoffer := State.offerAll_of_terminal (s := { s with tpt := s.tpt.load d }) hvalid hrole s.cfg.position
      [.directive s.tpt.directive d]
    rw [exec_writeDirective_accepted hport hvalid htarget, ← hd, hoffer]
    rfl

end Sys2Proof.Machine
end

section
/-! What a step can do to the state, told once: every command is a chain of moves, each an operation of one block, so that an
invariant need only be kept by every move. -/

namespace Sys2Proof.Machine

/-! ### The moves -/

/-- `t` differs from `s` in nothing that an invariant other than the marker's looks at: the moment, the station clock, the filter,
the PRU, the port, the marker, and the requests waiting at the PBC but for those to restore a drive. -/
structure Aside (s t : State) : Prop where
  cfl : t.cfl = { s.cfl with clock := t.cfl.clock }
  lmu : t.lmu = s.lmu
  rbe : t.rbe = s.rbe
  rbw : t.rbw = s.rbw
  records : t.records = s.records
  flt : t.flt = s.flt
  pbc : t.pbc = { s.pbc with isolations := t.pbc.isolations, driveRequests := t.pbc.driveRequests }
  sending : t.ttx = .silent → s.ttx = .silent
  queue : s.tpt.queue.length ≤ Config.queueRoom → t.tpt.queue.length ≤ Config.queueRoom

theorem Aside.rfl {s : State} : Aside s s := ⟨Eq.refl _, Eq.refl _, Eq.refl _, Eq.refl _, Eq.refl _, Eq.refl _, Eq.refl _, id, id⟩

theorem Aside.cfg {s t : State} (h : Aside s t) : t.cfg = s.cfg := by
  unfold State.cfg
  rw [h.cfl]

/-- A tracker at work keeps its kind and its position, and one that is assigned does not become IDLE (R48). -/
structure Worked (k k' : Tracker) : Prop where
  kind : k'.kind = k.kind
  pos : k'.pos = k.pos
  idle : k'.isIdle = k.isIdle ∨ k.pos.isSome = true ∧ k'.isIdle = false

/-- A dwell of bank `b` is over, and the class `o` observed (R40, R43). -/
def State.visited (s : State) (b : Bank) (w : Dwell) (o : Presence) : State :=
  (s.reach w.ends).setBank b (((s.bank b).observeAt w.pos o).moveOn s.cfg.position b w.ends w.pos)

/-- A granted isolation, once a probe on the pump has ended (R121, R137). -/
def State.withIsolation (s : State) (j : Nat) : State :=
  { s with
    pbc := Pbc.retarget { s.pbc with pumps := s.pbc.pumps.modify j fun x => { x.toOff with latch := true } } s.cfg s.now
    flt := { s.flt with pumps := s.flt.pumps.modify j (PumpEntry.grant s.cfl.clock) } }

/-- One operation of one block, with what the model checks before it. -/
inductive Move : State → State → Prop
  | aside {s t : State} (h : Aside s t) : Move s t
  | sampleMeters (s : State) (raw : Readings) (d : Moment) :
      Move s { s with lmu := { s.lmu.sampleSet s.cfg raw with epoch := some d } }
  | classChange (s : State) (ev : ClassChange) : Move s (s.deliverClass ev)
  | tracker (s : State) (b : Bank) (i : Nat) (g : Tracker → Tracker)
      (h : ∀ k, (s.bank b).trackers[i]? = some k → Worked k (g k)) : Move s (s.onTracker b i g)
  | wake (s : State) (b : Bank) (now : Moment) : Move s (s.setBank b ((s.bank b).wake s.cfg.position b now))
  | visit (s : State) (b : Bank) (w : Dwell) (o : Presence) (h : (s.bank b).confirms w.pos o = none) :
      Move s (s.visited b w o)
  | presence (s : State) (b : Bank) (w : Dwell) (o old : Presence) (h : (s.bank b).confirms w.pos o = some old) :
      Move s ((s.visited b w o).presenceChange b w.pos old o)
  | updateRecord (s : State) (q : Nat) (g : Neighbour → Neighbour) (h : ∀ r, (g r).origin = r.origin) :
      Move s { s with records := updateRecord q g s.records }
  | tellFlt (s : State) (q : Nat) : Move s (s.tellFlt q)
  | tellPbc (s : State) (q : Nat) : Move s (s.tellPbc q)
  | settle (s : State) (j : Nat) : Move s { s with flt := s.flt.startSettle s.cfg s.now j }
  | askRestore (s : State) (r : RestoreRequest) (h : ∀ g, r.result = some g → g.before ∈ s.flt.pumps) :
      Move s (s.askRestore r)
  | probeResult (s : State) (j : Nat) (good : Bool) :
      Move s { s with flt := s.flt.probeResult s.cfg s.cfl.clock j good }
  | withdraw (s : State) (j : Nat) (g : GivenResult) (h : ∃ r ∈ s.pbc.restores, r.result = some g) :
      Move s { s with flt := { s.flt with pumps := s.flt.pumps.modify j (PumpEntry.withdraw g.before) } }
  | epoch (s : State) (d : Moment) : Move s { s with flt := { s.flt with epoch := some d } }
  | judged (s : State) : Move s { s with flt := s.judged }
  | bypass (s : State) (a : Nat) (kind : AmpKind) (h : s.cfg.isSupervisory a = false) : Move s (s.withBypass a kind)
  | remap (s : State) : Move s { s with pbc := s.pbc.remap s.cfg s.now }
  | isolate (s : State) (j : Nat) (h : s.mustKeep j = false) : Move s (s.withIsolation j)
  | stepOnce (s : State) (j : Nat) (d : Moment) (x : Pump) (hx : s.pbc.pumps[j]? = some x) (hd : x.step = some d) :
      Move s { s with pbc := { s.pbc with pumps := s.pbc.pumps.modify j (Pump.stepOnce (s.cfg.pump j) d) } }
  | lower (s : State) (j : Nat) (h : s.grantsProbe j = true) :
      Move s { s with pbc := { s.pbc with pumps := s.pbc.pumps.modify j (Pump.lower (s.cfg.pump j)) } }
  | restore (s : State) (r : RestoreRequest) (rest : List RestoreRequest) (h : s.pbc.restores = r :: rest) :
      Move s { s with
        pbc := { s.pbc with
          restores := rest, pumps := s.pbc.pumps.modify r.pump (Pump.restore (s.cfg.pump r.pump) s.now) } }
  | release (s : State) : Move s s.release
  | rereference (s : State) : Move s s.rereference
  | restart (s : State) : Move s s.warmRestart

/-- A chain of moves. -/
abbrev Moves : State → State → Prop := Relation.ReflTransGen Move

theorem Move.one {s t : State} (h : Move s t) : Moves s t := .single h
theorem Aside.moves {s t : State} (h : Aside s t) : Moves s t := .single (.aside h)

/-! ### What stands aside -/

/-- Where the record and the port's queue stand, time, filter, PRU and marker are asides. -/
theorem State.reach_aside (s : State) (d : Moment) : Aside s (s.reach d) := ⟨rfl, rfl, rfl, rfl, rfl, rfl, rfl, id, id⟩

theorem State.report_aside (s : State) : Aside s s.report :=
  ⟨rfl, rfl, rfl, rfl, rfl, rfl, rfl, fun h => by cases hs : s.ttx <;> simp_all [Ttx.remark], id⟩

theorem State.withPru_aside (s : State) (p : Pru) : Aside s { s with pru := p } := ⟨rfl, rfl, rfl, rfl, rfl, rfl, rfl, id, id⟩

theorem State.setFilter_aside (s : State) (f : Filter) : Aside s (s.setFilter f) := ⟨rfl, rfl, rfl, rfl, rfl, rfl, rfl, id, id⟩

/-- The model's own counts and notes. -/
theorem State.notes_aside (s : State) (k : Nat) (r : Option Restarted) : Aside s { s with spare := k, restarted := r } :=
  ⟨rfl, rfl, rfl, rfl, rfl, rfl, rfl, id, id⟩

theorem State.taking_aside (s : State) (rest : List IsolationRequest) : Aside s (s.taking rest) :=
  ⟨rfl, rfl, rfl, rfl, rfl, rfl, rfl, id, id⟩

theorem State.startProbe_aside (s : State) (j : Nat) (source : ProbeSource) (p : Pru) :
    Aside s { s.startProbe j source with pru := p } := ⟨rfl, rfl, rfl, rfl, rfl, rfl, rfl, id, id⟩

theorem State.scheduledAttempt_aside (s : State) : Aside s s.scheduledAttempt := by
  unfold State.scheduledAttempt
  split
  · exact s.withPru_aside _
  · split
    · exact s.startProbe_aside ..
    · exact .rfl

theorem State.takeTurn_aside (s : State) (left : List Nat) : Aside s (s.takeTurn left) := by
  induction left with
  | nil => exact s.withPru_aside _
  | cons j rest ih =>
    unfold State.takeTurn
    split
    · split
      · exact s.startProbe_aside ..
      · exact s.withPru_aside _
    · exact ih

theorem State.requestRound_aside (s : State) : Aside s s.requestRound := by
  unfold State.requestRound
  split
  · exact .rfl
  · dsimp only
    split
    · have h := State.takeTurn_aside { s with pru := { s.pru with scheduled := false } } (List.range s.cfg.m)
      exact ⟨h.cfl, h.lmu, h.rbe, h.rbw, h.records, h.flt, h.pbc, h.sending, h.queue⟩
    · exact s.withPru_aside _

/-! ### The Record Queue keeps within its room (R180, R183) -/

@[simp] theorem Tpt.raise_queue (x : Causes) (t : Tpt) : (t.raise x).queue = t.queue := rfl

@[simp] theorem Tpt.attend_queue (c : Commissioning) (now : Moment) (x : Causes) (t : Tpt) :
    (t.attend c now x).queue = t.queue := by
  unfold Tpt.attend
  split
  · rfl
  · split <;> rfl

theorem Tpt.offer_queue_le (c : Commissioning) (now clock origin : Nat) (ch : Change) {t : Tpt}
    (h : t.queue.length ≤ Config.queueRoom) : (t.offer c now clock origin ch).queue.length ≤ Config.queueRoom := by
  unfold Tpt.offer
  split
  case isTrue hroom => simpa using hroom
  case isFalse => simpa using h

theorem Tpt.offers_queue_le (c : Commissioning) (now clock origin : Nat) (changes : List Change) {t : Tpt}
    (h : t.queue.length ≤ Config.queueRoom) :
    (changes.foldl (fun t ch => t.offer c now clock origin ch) t).queue.length ≤ Config.queueRoom := by
  induction changes generalizing t with
  | nil => exact h
  | cons ch rest ih => exact ih (Tpt.offer_queue_le _ _ _ _ _ h)

/-- A change of the port alone that keeps the queue within its room. -/
theorem State.withTpt_aside (s : State) (u : Tpt) (k : Nat)
    (h : s.tpt.queue.length ≤ Config.queueRoom → u.queue.length ≤ Config.queueRoom) :
    Aside s { s with tpt := u, spare := k } := ⟨rfl, rfl, rfl, rfl, rfl, rfl, rfl, id, h⟩

theorem State.respond_aside (s : State) (r : Response) : Aside s (s.respond r) := s.withTpt_aside _ s.spare id

theorem State.offerAll_aside (s : State) (origin : Nat) (changes : List Change) : Aside s (s.offerAll origin changes) := by
  unfold State.offerAll
  split
  · exact s.withTpt_aside _ s.spare (Tpt.offers_queue_le _ _ _ _ _)
  · exact .rfl

/-! ### The shared operations as chains of moves -/

theorem State.finishProbe_moves (s : State) (pr : Probe) : Moves s (s.finishProbe pr) :=
  .trans (Move.settle s pr.pump).one (State.withPru_aside _ _).moves

theorem State.abortProbe_moves (s : State) (pr : Probe) : Moves s (s.abortProbe pr) :=
  .trans (s.finishProbe_moves pr) (State.withPru_aside _ _).moves

theorem State.collisionTest_moves (s : State) (q : Nat) : Moves s (s.collisionTest q) := by
  unfold State.collisionTest
  split
  · split
    · exact ((s.abortProbe_moves _).trans (Move.askRestore _ _ (by simp)).one).trans (State.report_aside _).moves
    · exact .refl
  · exact .refl

theorem Pbc.givenResult_mem {p : Pbc} {j : Nat} {g : GivenResult} (h : p.givenResult j = some g) :
    ∃ r ∈ p.restores, r.result = some g := by
  obtain ⟨r, hr, hg⟩ := Option.bind_eq_some_iff.1 h
  exact ⟨r, List.mem_reverse.1 (List.mem_of_find?_eq_some hr), hg⟩

theorem State.reviewResult_moves (s : State) (j : Nat) (g : GivenResult) (withdrawn : Bool)
    (h : ∃ r ∈ s.pbc.restores, r.result = some g) : Moves s (s.reviewResult j g withdrawn) := by
  cases withdrawn
  · exact (s.notes_aside _ s.restarted).moves
  · exact (Move.withdraw s j g h).one.trans (State.notes_aside _ _ s.restarted).moves

theorem State.endLate_moves (s : State) (j : Nat) : Moves s (s.endLate j) := by
  have hsettle : Moves s { s with flt := s.flt.startSettle s.cfg s.now j } := (Move.settle s j).one
  rcases s.endLate_cases j with h | ⟨g, hg, -, h⟩ <;> rw [h]
  · exact hsettle
  · exact hsettle.trans (State.reviewResult_moves _ j g _ (Pbc.givenResult_mem hg))

theorem State.probeTaken_moves (s : State) (j : Nat) : Moves s (s.probeTaken j) := by
  rcases s.probeTaken_cases j with ⟨pr, w, -, -, h⟩ | ⟨-, h⟩ <;> rw [h]
  · exact s.finishProbe_moves pr
  · exact s.endLate_moves j

theorem State.remap_moves (s : State) : Moves s s.remap := by
  have hend : Moves s s.endRemappedProbe := by
    unfold State.endRemappedProbe
    split
    · split
      · exact s.probeTaken_moves _
      · exact .refl
    · exact .refl
  have heq : s.remap = { s.endRemappedProbe with
      pbc := s.endRemappedProbe.pbc.remap s.endRemappedProbe.cfg s.endRemappedProbe.now } := by
    rw [State.endRemappedProbe_cfg, State.remap]
    simp only [State.endRemappedProbe_now]
  rw [heq]
  exact hend.trans (Move.remap s.endRemappedProbe).one

theorem State.bypass_moves (s : State) (a : Nat) (kind : AmpKind) (h : s.cfg.isSupervisory a = false) :
    Moves s (s.bypass a kind) :=
  ((Move.bypass s a kind h).one.trans (State.remap_moves _)).trans (State.report_aside _).moves

theorem State.isolatePump_moves (s : State) (j : Nat) (h : s.mustKeep j = false) : Moves s (s.isolatePump j) := by
  have hend : Moves s (s.endIsolatedProbe j) := by
    unfold State.endIsolatedProbe
    split
    · exact s.probeTaken_moves j
    · exact .refl
  have htouch : TouchesProbeOnly s (s.endIsolatedProbe j) := s.endIsolatedProbe_touches j
  have hkeep : (s.endIsolatedProbe j).mustKeep j = false := by
    unfold TouchesProbeOnly at htouch
    rw [htouch]
    exact h
  have hiso := hend.trans (Move.isolate _ j hkeep).one
  have heq : s.isolatePump j = ((s.endIsolatedProbe j).withIsolation j).report := by
    rw [State.isolatePump_eq]
    unfold TouchesProbeOnly at htouch
    rw [htouch]
    rfl
  rw [heq]
  exact hiso.trans (State.report_aside _).moves

theorem State.tellPru_moves (s : State) (q : Nat) : Moves s (s.tellPru q) := by
  unfold State.tellPru
  split
  · exact s.collisionTest_moves q
  · exact .refl

theorem State.replaceRecord_moves (s : State) (f : Frame) : Moves s (s.replaceRecord f) :=
  ((((Move.updateRecord s f.origin (Neighbour.replace s.now f) fun _ => rfl).one.trans (Move.tellFlt _ _).one).trans
    (Move.tellPbc _ _).one).trans (State.tellPru_moves _ _)).trans (State.offerAll_aside _ _ _).moves

theorem State.execute_moves (s : State) (k : DirectiveKind) : Moves s (s.execute k) := by
  cases k
  · exact (Move.release s).one
  · exact (Move.rereference s).one
  · exact (Move.restart s).one
  · exact .refl

theorem State.filterDirective_moves (s : State) (origin : Nat) (d : Directive) : Moves s (s.filterDirective origin d) := by
  have hset (f : Filter) : Moves s (s.setFilter f) := (s.setFilter_aside f).moves
  unfold State.filterDirective
  split
  · dsimp only
    split
    · exact (hset _).trans (State.execute_moves _ _)
    · exact hset _
  · split
    · dsimp only
      split
      · exact (hset _).trans (State.execute_moves _ _)
      · exact hset _
    · exact .refl

theorem State.deliver_moves (s : State) (f : Frame) : Moves s (s.deliver f) := by
  unfold State.deliver
  split
  · exact (s.replaceRecord_moves f).trans (State.filterDirective_moves _ _ _)
  · exact s.replaceRecord_moves f

theorem State.enterProbing_moves (s : State) (pr : Probe) : Moves s (s.enterProbing pr) :=
  (((State.withPru_aside s _).moves.trans (State.collisionTest_moves _ _)).trans (State.collisionTest_moves _ _)).trans
    (State.report_aside _).moves

theorem State.takeAnswer_moves (s : State) (r : DriveRequest) (granted : Bool) : Moves s (s.takeAnswer r granted) := by
  unfold State.takeAnswer
  split
  · split
    · exact s.enterProbing_moves _
    · exact s.abortProbe_moves _
  · split
    · exact (Move.settle s r.pump).one.trans (Move.askRestore _ _ (by simp)).one
    · exact .refl

theorem State.judge_moves (s : State) : Moves s s.judge := by
  have hjudged : Moves s { s with flt := s.judged } := (Move.judged s).one
  have hiso : Moves s
      { s with flt := s.judged, pbc := { s.pbc with isolations := s.pbc.isolations ++ s.stage5 s.judged } } :=
    hjudged.trans (State.taking_aside _ _).moves
  unfold State.judge
  dsimp only
  split
  · exact (hiso.trans (State.requestRound_aside _).moves).trans (State.report_aside _).moves
  · exact hiso.trans (State.report_aside _).moves

theorem State.deliverClasses_moves (s : State) (l : List ClassChange) : Moves s (l.foldl State.deliverClass s) := by
  induction l generalizing s with
  | nil => exact .refl
  | cons ev rest ih => exact (Move.classChange s ev).one.trans (ih _)

end Sys2Proof.Machine
end

section
/-! What every command is: a cold start, a stage of the load, the declaration of VALID, or a chain of moves; and the one induction
that gives every invariant of a step. -/

namespace Sys2Proof.Machine

/-! ### The commands -/

/-- What the loader's commands do before the declaration (R163 to R167). -/
inductive Loading : State → State → Prop
  | start (s : State) (strap : Level) (h : s.cfl.resetHeld = true) :
      Loading s { s with
        now := 0
        cfl := { s.cfl with resetHeld := false, strap := roleOfStrap strap, clock := 0, phase := .readingHeader } }
  | header (s : State) (bus : List BusSymbol) (hi lo : Byte) (h : s.cfl.isLoading .readingHeader = true) :
      Loading s { s with cfl := { s.cfl with bus := bus }.takeHeader hi lo }
  | body (s : State) (bus : List BusSymbol) (image : List Word) (h : s.cfl.isLoading .readingBody = true) :
      Loading s { s with cfl := Cfl.check s.cfl.strap { s.cfl with bus := bus, image := image } }
  | absent (s : State) (bus : List BusSymbol)
      (h : s.cfl.isLoading .readingHeader = true ∨ s.cfl.isLoading .readingBody = true) :
      Loading s { s with cfl := { s.cfl with bus := bus }.fail .absent }

section
variable {s t : State}

theorem sampleSet_moves {raw : Readings} (he : exec (.sampleSet raw) s = .next t) : Moves s t := by
  simp only [exec, execSampleSet] at he
  split at he <;> cases he
  · exact (((State.reach_aside s _).moves.trans (Move.sampleMeters _ raw _).one).trans (State.deliverClasses_moves _ _)).trans
      (State.report_aside _).moves
  · exact .refl

theorem dwellComplete_moves {b : Bank} {d : Depths} (he : exec (.dwellComplete b d) s = .next t) : Moves s t := by
  simp only [exec, execDwellComplete] at he
  split at he
  next w _ _ =>
    split at he <;> cases he
    next old h => exact (Move.presence s b w _ old h).one
    next h => exact (Move.visit s b w _ h).one
  next => cases he; exact .refl

theorem recordAgeTick_moves {q : Byte} (he : exec (.recordAgeTick q) s = .next t) : Moves s t := by
  have htick (d : Moment) : Moves s { s.reach d with
      records := updateRecord q.toNat (Neighbour.tick s.cfg.stale) (s.reach d).records } :=
    (s.reach_aside d).moves.trans (Move.updateRecord _ q.toNat (Neighbour.tick s.cfg.stale) fun _ => rfl).one
  simp only [exec, execRecordAgeTick] at he
  split at he
  · split at he
    · split at he <;> cases he
      · exact ((htick _).trans (Move.tellFlt _ _).one).trans (Move.tellPbc _ _).one
      · exact htick _
    · cases he; exact .refl
  · cases he; exact .refl

theorem judgementEpoch_moves (he : exec .judgementEpoch s = .next t) : Moves s t := by
  simp only [exec, execJudgementEpoch] at he
  split at he <;> cases he
  · exact ((s.reach_aside _).moves.trans (Move.epoch _ _).one).trans (State.judge_moves _)
  · exact .refl

/-! ### A tracker's events -/

theorem Worked.foundSync (now : Moment) (after : List Bool) (k : Tracker) : Worked k (k.foundSync now after) :=
  ⟨rfl, rfl, .inl rfl⟩

theorem Worked.hunt (ahead : List Bool) (k : Tracker) : Worked k (k.hunt ahead) := ⟨rfl, rfl, .inl rfl⟩

theorem Worked.lock (now : Moment) (after : List Bool) {k : Tracker} (h : k.pos.isSome = true) :
    Worked k (k.lock now after) := ⟨rfl, rfl, .inr ⟨h, rfl⟩⟩

theorem Tracker.isIdle_of_locked {k : Tracker} (h : k.state = .locked) : k.isIdle = false := by
  simp [Tracker.isIdle, h]

theorem Worked.failLocked (ahead : List Bool) {k : Tracker} (h : k.state = .locked) : Worked k (k.failLocked ahead) := by
  refine ⟨by simp, by simp, .inl ?_⟩
  rw [Tracker.isIdle_of_locked h]
  unfold Tracker.failLocked
  split
  · exact Tracker.isIdle_of_locked h
  · rfl

theorem Worked.failFrame (stream : List Bool) (k : Tracker) : Worked k (k.failFrame stream) := by
  unfold Tracker.failFrame
  split
  · exact .failLocked _ ‹_›
  · exact .hunt _ k

theorem Worked.expire {k : Tracker} (h : k.state = .locked) : Worked k k.expire :=
  ⟨rfl, rfl, .inl (Tracker.isIdle_of_locked h).symm⟩

/-- A tracker's event, by what it does to the tracker that is there. -/
theorem onTracker_moves {b : Bank} {i : Nat} {k : Tracker} {g : Tracker → Tracker} (hk : (s.bank b).trackers[i]? = some k)
    (hg : Worked k (g k)) : Moves s (s.onTracker b i g) :=
  (Move.tracker s b i g fun k' hk' => by cases hk.symm.trans hk'; exact hg).one

theorem syncFound_moves {b : Bank} {x : Heard} (he : exec (.syncFound b x) s = .next t) : Moves s t := by
  simp only [exec, execSyncFound] at he
  split at he
  next k hk =>
    split at he
    · cases he; exact .refl
    · split at he <;> cases he
      · exact onTracker_moves hk (.foundSync _ _ _)
      · exact .refl
  next => cases he; exact .refl

theorem syncMissing_moves {b : Bank} {x : Heard} (he : exec (.syncMissing b x) s = .next t) : Moves s t := by
  simp only [exec, execSyncMissing] at he
  split at he
  next k hk =>
    split at he <;> cases he
    next h => exact onTracker_moves hk (.failLocked _ h.1)
    next => exact .refl
  next => cases he; exact .refl

theorem syncTimerExpiry_moves {b : Bank} {i : Nat} (he : exec (.syncTimerExpiry b i) s = .next t) : Moves s t := by
  simp only [exec, execSyncTimerExpiry] at he
  split at he
  next k hk =>
    split at he <;> cases he
    next d hs _ =>
      have hk' : ((s.reach d).bank b).trackers[i]? = some k := by cases b <;> exact hk
      exact (s.reach_aside d).moves.trans (onTracker_moves hk' (.expire hs))
    next => exact .refl
  next => cases he; exact .refl

theorem takeCut_moves {b : Bank} {i q : Nat} {k : Tracker} {stream : List Bool} (hk : (s.bank b).trackers[i]? = some k)
    (hq : k.pos = some q) : Moves s (s.takeCut b i q stream) := by
  rcases s.takeCut_cases b i q stream with h | ⟨f, d, -, -, -, -, h⟩
  · rw [h]
  · rw [h]
    have hnote : Moves s (s.settleCut b i).spend := (s.notes_aside _ _).moves
    have hk' : ((s.settleCut b i).spend.bank b).trackers[i]? = some k := by cases b <;> exact hk
    unfold State.takeSecond
    cases Config.restartsTogether s.spare
    · exact hnote
    · exact (hnote.trans (onTracker_moves hk' (.lock _ _ (by simp [hq])))).trans (State.deliver_moves _ _)

theorem frameChecked_moves {b : Bank} {i : Nat} {bits : List Bool} (he : exec (.frameChecked b i bits) s = .next t) :
    Moves s t := by
  simp only [exec, execFrameChecked] at he
  split at he
  next k hk =>
    split at he
    next q _ hq =>
      split at he
      · split at he <;> cases he
        · exact (onTracker_moves hk (.lock _ _ (by simp [hq]))).trans (State.deliver_moves _ _)
        · exact onTracker_moves hk (.failFrame _ _)
      · cases he; exact onTracker_moves hk (.hunt _ _)
    next q _ hq _ =>
      split at he <;> cases he
      · exact takeCut_moves hk hq
      · exact .refl
    next => cases he; exact .refl
  next => cases he; exact .refl

theorem confirmationTimerExpiry_moves {b : Bank} (he : exec (.confirmationTimerExpiry b) s = .next t) : Moves s t := by
  simp only [exec, execConfirmationTimerExpiry] at he
  split at he <;> cases he
  · exact (s.reach_aside _).moves.trans (Move.wake _ b _).one
  · exact .refl

/-! ### The events of the PBC and the PRU -/

theorem ampIsolationRequest_moves (he : exec .ampIsolationRequest s = .next t) : Moves s t := by
  simp only [exec, execAmpIsolationRequest] at he
  split at he
  next a kind rest _ =>
    have htake : Moves s (s.taking rest) := (s.taking_aside rest).moves
    split at he
    · cases he; exact htake
    next hsup =>
      split at he <;> cases he
      · exact htake
      · exact htake.trans (State.bypass_moves _ a kind (Bool.eq_false_iff.2 hsup))
  next => cases he; exact .refl

theorem pumpIsolationRequest_moves (he : exec .pumpIsolationRequest s = .next t) : Moves s t := by
  simp only [exec, execPumpIsolationRequest] at he
  split at he
  next j rest _ =>
    have htake : Moves s (s.taking rest) := (s.taking_aside rest).moves
    split at he
    · cases he; exact htake
    next hkeep =>
      split at he <;> cases he
      · exact htake
      · exact htake.trans (State.isolatePump_moves _ j (Bool.eq_false_iff.2 hkeep))
  next => cases he; exact .refl

theorem stepTimerExpiry_moves {j : Nat} (he : exec (.stepTimerExpiry j) s = .next t) : Moves s t := by
  simp only [exec, execStepTimerExpiry] at he
  split at he <;> cases he
  next d hd =>
    obtain ⟨x, hx, hstep⟩ := Option.bind_eq_some_iff.1 hd
    exact (s.reach_aside d).moves.trans (Move.stepOnce (s.reach d) j d x hx hstep).one
  next => exact .refl

theorem probeIntervalExpiry_moves (he : exec .probeIntervalExpiry s = .next t) : Moves s t := by
  simp only [exec, execProbeIntervalExpiry] at he
  split at he
  next => cases he; exact .refl
  next d _ =>
    have hrun (p : Pru) : Moves s { s.reach d with pru := p } :=
      (s.reach_aside d).moves.trans (State.withPru_aside _ p).moves
    split at he <;> cases he
    · exact hrun _
    · exact (hrun _).trans (State.scheduledAttempt_aside _).moves

theorem probeEpochRetry_moves (he : exec .probeEpochRetry s = .next t) : Moves s t := by
  simp only [exec, execProbeEpochRetry] at he
  split at he <;> cases he
  · exact s.scheduledAttempt_aside.moves
  · exact .refl

theorem roundEpochRetry_moves (he : exec .roundEpochRetry s = .next t) : Moves s t := by
  simp only [exec, execRoundEpochRetry] at he
  split at he
  · split at he <;> cases he
    · exact (s.takeTurn_aside _).moves
    · exact .refl
  · cases he; exact .refl

theorem gapTimerExpiry_moves (he : exec .gapTimerExpiry s = .next t) : Moves s t := by
  simp only [exec, execGapTimerExpiry] at he
  split at he <;> cases he
  · exact ((s.reach_aside _).moves.trans (State.withPru_aside _ _).moves).trans (State.takeTurn_aside _ _).moves
  · exact .refl

theorem probeDriveRequest_moves (he : exec .probeDriveRequest s = .next t) : Moves s t := by
  simp only [exec, execProbeDriveRequest] at he
  split at he
  next r rest _ =>
    have htake : Moves s { s with pbc := { s.pbc with driveRequests := rest } } :=
      Aside.moves ⟨rfl, rfl, rfl, rfl, rfl, rfl, rfl, id, id⟩
    split at he <;> cases he
    next hgrant => exact (htake.trans (Move.lower { s with pbc := { s.pbc with driveRequests := rest } } r.pump hgrant).one).trans (State.takeAnswer_moves _ _ _)
    next => exact htake.trans (State.takeAnswer_moves _ _ _)
  next => cases he; exact .refl

/-- The window's result is scored and noted in the restore request; the two commute, and the note is of the entry before. -/
theorem probeWindowExpiry_moves (he : exec .probeWindowExpiry s = .next t) : Moves s t := by
  simp only [exec, execProbeWindowExpiry] at he
  split at he <;> cases he
  next pr d _ =>
    have hend : Moves s ((s.reach d).finishProbe pr) := (s.reach_aside d).moves.trans (State.finishProbe_moves _ pr)
    refine Relation.ReflTransGen.trans ?_ (State.report_aside _).moves
    refine (hend.trans (Move.askRestore _ ⟨pr.pump, Flt.resultOf ((s.reach d).finishProbe pr).flt
      (((s.reach d).finishProbe pr).flt.probeResult s.cfg s.cfl.clock pr.pump ((s.reach d).probeGood pr)) pr.pump⟩
      ?_).one).trans (Move.probeResult _ pr.pump _).one
    intro g hg
    obtain ⟨before, hbefore, hmap⟩ := Option.bind_eq_some_iff.1 hg
    obtain ⟨after, -, rfl⟩ := Option.map_eq_some_iff.1 hmap
    exact List.mem_of_getElem? hbefore
  next => exact .refl

theorem restoreRequest_moves (he : exec .restoreRequest s = .next t) : Moves s t := by
  simp only [exec, execRestoreRequest] at he
  split at he <;> cases he
  next r rest h => exact (Move.restore s r rest h).one
  next => exact .refl

theorem frameSnapshot_moves (he : exec .frameSnapshot s = .next t) : Moves s t := by
  simp only [exec, execFrameSnapshot] at he
  split at he <;> cases he
  · exact Aside.moves ⟨rfl, rfl, rfl, rfl, rfl, rfl, rfl, (by simp), id⟩
  · exact .refl

/-! ### The port's commands, and the clock -/

theorem respond_moves (u : Tpt) (k : Nat)
    (h : s.tpt.queue.length ≤ Config.queueRoom → u.queue.length ≤ Config.queueRoom) :
    Moves s { s with tpt := u, spare := k } := (s.withTpt_aside u k h).moves

theorem readStatus_moves (he : exec .readStatus s = .next t) : Moves s t := by
  simp only [exec, execReadStatus] at he
  split at he <;> cases he
  · exact respond_moves _ _ id
  · exact .refl

theorem readPresence_moves {q : Byte} (he : exec (.readPresence q) s = .next t) : Moves s t := by
  simp only [exec, execReadPresence] at he
  split at he <;> cases he
  · exact respond_moves _ s.spare id
  · exact .refl

theorem readObservation_moves {q : Byte} (he : exec (.readObservation q) s = .next t) : Moves s t := by
  simp only [exec, execReadObservation] at he
  split at he <;> cases he
  · exact respond_moves _ _ id
  · exact .refl

theorem writeDirective_moves {kind target : Byte} (he : exec (.writeDirective kind target) s = .next t) : Moves s t := by
  simp only [exec, execWriteDirective] at he
  split at he
  · split at he
    · cases he; exact respond_moves _ s.spare id
    · split at he <;> cases he
      · exact respond_moves _ s.spare id
      · exact (Relation.ReflTransGen.trans (respond_moves { s.tpt with
            directive := some ⟨DirectiveKind.ofCode kind.toNat, target.toNat, s.tpt.idCounter⟩
            idCounter := (s.tpt.idCounter + 1) % 16 } s.spare id) (State.offerAll_aside _ _ _).moves).trans
          (State.respond_aside _ _).moves
  · cases he; exact .refl

theorem clearDirective_moves (he : exec .clearDirective s = .next t) : Moves s t := by
  simp only [exec, execClearDirective] at he
  split at he <;> cases he
  · exact respond_moves _ s.spare id
  · exact .refl

theorem readRecord_moves {i : Byte} (he : exec (.readRecord i) s = .next t) : Moves s t := by
  simp only [exec, execReadRecord] at he
  split at he
  · split at he <;> cases he
    · exact respond_moves _ _ id
    · exact respond_moves _ s.spare id
  · cases he; exact .refl

theorem advance_moves {n : Byte} (he : exec (.advance n) s = .next t) : Moves s t := by
  simp only [exec, execAdvance] at he
  split at he <;> cases he
  · exact respond_moves _ s.spare fun h => by
      simp only [List.length_drop]
      omega
  · exact .refl

theorem clearQueue_moves (he : exec .clearQueue s = .next t) : Moves s t := by
  simp only [exec, execClearQueue] at he
  split at he <;> cases he
  · exact respond_moves _ s.spare fun _ => Nat.zero_le _
  · exact .refl

theorem badCommand_moves {code : Byte} (he : exec (.badCommand code) s = .next t) : Moves s t := by
  simp only [exec, execBadCommand] at he
  split at he <;> cases he
  · exact respond_moves _ s.spare id
  · exact .refl

theorem recordTimerExpiry_moves (he : exec .recordTimerExpiry s = .next t) : Moves s t := by
  simp only [exec, execRecordTimerExpiry] at he
  split at he <;> cases he
  · exact (s.reach_aside _).moves.trans (respond_moves _ s.spare id)
  · exact .refl

theorem absoluteTimerExpiry_moves (he : exec .absoluteTimerExpiry s = .next t) : Moves s t := by
  simp only [exec, execAbsoluteTimerExpiry] at he
  split at he <;> cases he
  · exact (s.reach_aside _).moves.trans (respond_moves _ s.spare id)
  · exact .refl

theorem stationClockTick_moves (he : exec .stationClockTick s = .next t) : Moves s t := by
  simp only [exec, execStationClockTick] at he
  split at he <;> cases he
  · exact .refl
  · exact Aside.moves ⟨rfl, rfl, rfl, rfl, rfl, rfl, rfl, id, id⟩

/-! ### The load's commands -/

theorem loadBegin_cases {strap : Level} (he : exec (.loadBegin strap) s = .next t) : Loading s t ∨ t = s := by
  simp only [exec, execLoadBegin] at he
  split at he <;> cases he
  next h => exact .inl (.start s strap h)
  next => exact .inr rfl

theorem readingHeader_cases {r : BusReply} (he : exec (.readingHeader r) s = .next t) : Loading s t ∨ t = s := by
  simp only [exec, execReadingHeader] at he
  split at he
  next h =>
    split at he <;> cases he
    · exact .inl (.header s _ _ _ h)
    · exact .inr rfl
    · exact .inl (.absent s _ (.inl h))
  next => cases he; exact .inr rfl

theorem readingBody_cases {r : BusReply} (he : exec (.readingBody r) s = .next t) : Loading s t ∨ t = s := by
  simp only [exec, execReadingBody] at he
  split at he
  next h =>
    split at he
    · split at he <;> cases he
      · exact .inr rfl
      · exact .inl (.body s _ _ h)
    · cases he; exact .inl (.absent s _ (.inr h))
  next => cases he; exact .inr rfl

theorem wordTransferTimeout_cases (he : exec .wordTransferTimeout s = .next t) : Loading s t ∨ t = s := by
  simp only [exec, execWordTransferTimeout] at he
  split at he <;> cases he
  next h => exact .inl (.absent s _ (by simpa using h))
  next => exact .inr rfl

/-- All that a command can be. -/
theorem exec_cases (c : Instr) (he : exec c s = .next t) :
    (c = .coldStart ∧ t = State.cold s.pbc.switches s.spi s.spare s.pending) ∨
    (∃ raw, s.cfl.isLoading .sampling = true ∧ t = s.declare raw) ∨ Loading s t ∨ Moves s t := by
  have hload (h : Loading s t ∨ t = s) : Loading s t ∨ Moves s t := h.imp_right fun h : t = s => by rw [h]
  cases c
  case coldStart => cases he; exact .inl ⟨rfl, rfl⟩
  case declareValid raw =>
    simp only [exec, execDeclareValid] at he
    split at he <;> cases he
    next h => exact .inr (.inl ⟨raw, h, rfl⟩)
    next => exact .inr (.inr (.inr .refl))
  case loadBegin => exact .inr (.inr (hload (loadBegin_cases he)))
  case readingHeader => exact .inr (.inr (hload (readingHeader_cases he)))
  case readingBody => exact .inr (.inr (hload (readingBody_cases he)))
  case wordTransferTimeout => exact .inr (.inr (hload (wordTransferTimeout_cases he)))
  all_goals refine .inr (.inr (.inr ?_))
  case stationClockTick => exact stationClockTick_moves he
  case sampleSet => exact sampleSet_moves he
  case confirmationTimerExpiry => exact confirmationTimerExpiry_moves he
  case dwellComplete => exact dwellComplete_moves he
  case syncFound => exact syncFound_moves he
  case frameChecked => exact frameChecked_moves he
  case syncMissing => exact syncMissing_moves he
  case syncTimerExpiry => exact syncTimerExpiry_moves he
  case recordAgeTick => exact recordAgeTick_moves he
  case frameSnapshot => exact frameSnapshot_moves he
  case judgementEpoch => exact judgementEpoch_moves he
  case probeEpochRetry => exact probeEpochRetry_moves he
  case roundEpochRetry => exact roundEpochRetry_moves he
  case ampIsolationRequest => exact ampIsolationRequest_moves he
  case pumpIsolationRequest => exact pumpIsolationRequest_moves he
  case stepTimerExpiry => exact stepTimerExpiry_moves he
  case probeIntervalExpiry => exact probeIntervalExpiry_moves he
  case probeDriveRequest => exact probeDriveRequest_moves he
  case probeWindowExpiry => exact probeWindowExpiry_moves he
  case restoreRequest => exact restoreRequest_moves he
  case gapTimerExpiry => exact gapTimerExpiry_moves he
  case readStatus => exact readStatus_moves he
  case readPresence => exact readPresence_moves he
  case readObservation => exact readObservation_moves he
  case writeDirective => exact writeDirective_moves he
  case clearDirective => exact clearDirective_moves he
  case readRecord => exact readRecord_moves he
  case advance => exact advance_moves he
  case clearQueue => exact clearQueue_moves he
  case badCommand => exact badCommand_moves he
  case recordTimerExpiry => exact recordTimerExpiry_moves he
  case absoluteTimerExpiry => exact absoluteTimerExpiry_moves he

end

end Sys2Proof.Machine
end

section
/-! The load (R162 to R170): it stands untouched while INVALID, the declaration makes it VALID, and VALID stays. -/

namespace Sys2Proof.Machine

/-! ### While INVALID (R169) -/

section
variable {s t : State}

theorem State.untouched.pbc_fields (h : s.untouched) :
    s.pbc.pumps = [] ∧ s.pbc.bypass = [] ∧ s.pbc.demands = [] ∧ s.pbc.isolations = [] ∧ s.pbc.driveRequests = [] ∧
      s.pbc.restores = [] := by
  obtain ⟨-, -, -, -, -, -, -, h, -, -⟩ := h
  rw [h]
  exact ⟨rfl, rfl, rfl, rfl, rfl, rfl⟩

theorem State.untouched.tpt_fields (h : s.untouched) :
    s.tpt.queue = [] ∧ s.tpt.overrun = 0 ∧ s.tpt.gap = 0 ∧ s.tpt.causes = Causes.empty ∧ s.tpt.recordTimer = none ∧
      s.tpt.absoluteTimer = none ∧ s.tpt.directive = none := by
  obtain ⟨-, -, -, -, -, -, -, -, -, h⟩ := h
  rw [h]
  exact ⟨rfl, rfl, rfl, rfl, rfl, rfl, rfl⟩

theorem State.untouched.bank_eq (h : s.untouched) (b : Bank) : s.bank b = RxBank.cold := by
  obtain ⟨-, -, he, hw, -⟩ := h
  cases b
  · exact he
  · exact hw

theorem State.untouched.tracker_eq (h : s.untouched) {b : Bank} {i : Nat} {k : Tracker}
    (hk : (s.bank b).trackers[i]? = some k) : k = Tracker.cold := by
  rw [h.bank_eq b] at hk
  exact List.eq_of_mem_replicate (List.mem_of_getElem? hk)

/-- A port's command that leaves all but the response as a cold start left it. -/
theorem State.untouched.withTpt (h : s.untouched) {u : Tpt} {k : Nat} (hu : u = { s.tpt with response := u.response }) :
    ({ s with tpt := u, spare := k } : State).untouched := by
  obtain ⟨h1, h2, h3, h4, h5, h6, h7, h8, h9, h10⟩ := h
  refine ⟨h1, h2, h3, h4, h5, h6, h7, h8, h9, ?_⟩
  show u = { Tpt.cold with response := u.response }
  rw [hu, h10]

theorem State.untouched.respond (h : s.untouched) (r : Response) : (s.respond r).untouched :=
  h.withTpt (k := s.spare) (u := { s.tpt with response := some r }) rfl

/-- On an untouched state a command that is no part of the load changes nothing but the station clock and the response: no timer
runs, nothing is asked for, and no tracker is at work. -/
theorem exec_untouched {c : Instr} (h : s.untouched) (hv : s.cfl.valid = false) (he : exec c s = .next t)
    (hload : ¬ Loading s t) (hd : ∀ raw, c = .declareValid raw → s.cfl.isLoading .sampling = false) (hc : c ≠ .coldStart) :
    t.untouched ∧ t.cfl = { s.cfl with clock := t.cfl.clock } := by
  obtain ⟨hpumps, -, -, hiso, hdrive, hrest⟩ := h.pbc_fields
  obtain ⟨hqueue, hover, hgap, hcauses, hrec, habs, hdir⟩ := h.tpt_fields
  have hbank := h.bank_eq
  have htracker {b : Bank} {i : Nat} {k : Tracker} := h.tracker_eq (b := b) (i := i) (k := k)
  obtain ⟨hlmu, httx, -, -, -, hrecords, hflt, -, hpru, -⟩ := id h
  have hsame (ht : t = s) : t.untouched ∧ t.cfl = { s.cfl with clock := t.cfl.clock } := by rw [ht]; exact ⟨h, rfl⟩
  have hport {r : State} (hr : r.untouched ∧ r.cfl = { s.cfl with clock := r.cfl.clock })
      (ht : (if s.portActive then Host.Outcome.next r else .next s) = .next (φ := Fault) (ρ := Refusal) t) :
      t.untouched ∧ t.cfl = { s.cfl with clock := t.cfl.clock } := by
    split at ht <;> cases ht
    · exact hr
    · exact ⟨h, rfl⟩
  cases c
  case coldStart => exact absurd rfl hc
  case declareValid raw => exact hsame (by simpa [exec, execDeclareValid, hd raw rfl, eq_comm] using he)
  case loadBegin => exact hsame ((loadBegin_cases he).resolve_left hload)
  case readingHeader => exact hsame ((readingHeader_cases he).resolve_left hload)
  case readingBody => exact hsame ((readingBody_cases he).resolve_left hload)
  case wordTransferTimeout => exact hsame ((wordTransferTimeout_cases he).resolve_left hload)
  case stationClockTick =>
    simp only [exec, execStationClockTick] at he
    split at he <;> cases he
    · exact ⟨h, rfl⟩
    · exact ⟨h, rfl⟩
  case sampleSet => exact hsame (by simpa [exec, execSampleSet, hlmu, Lmu.cold, eq_comm] using he)
  case confirmationTimerExpiry b =>
    exact hsame (by simpa [exec, execConfirmationTimerExpiry, hbank, RxBank.cold, eq_comm] using he)
  case dwellComplete b d => exact hsame (by simpa [exec, execDwellComplete, hbank, RxBank.cold, eq_comm] using he)
  case syncFound b x =>
    simp only [exec, execSyncFound] at he
    split at he
    next k hk => exact hsame (by simpa [htracker hk, Tracker.cold, Tracker.isIdle, eq_comm] using he)
    next => cases he; exact hsame rfl
  case frameChecked b i bits =>
    simp only [exec, execFrameChecked] at he
    split at he
    next k hk => rw [htracker hk] at he; cases he; exact hsame rfl
    next => cases he; exact hsame rfl
  case syncMissing b x =>
    simp only [exec, execSyncMissing] at he
    split at he
    next k hk => rw [htracker hk, if_neg (fun h => nomatch h.1)] at he; cases he; exact hsame rfl
    next => cases he; exact hsame rfl
  case syncTimerExpiry b i =>
    simp only [exec, execSyncTimerExpiry] at he
    split at he
    next k hk => rw [htracker hk] at he; cases he; exact hsame rfl
    next => cases he; exact hsame rfl
  case recordAgeTick q => exact hsame (by simpa [exec, execRecordAgeTick, hrecords, findRecord, eq_comm] using he)
  case frameSnapshot => exact hsame (by simpa [exec, execFrameSnapshot, httx, eq_comm] using he)
  case judgementEpoch => exact hsame (by simpa [exec, execJudgementEpoch, hflt, Flt.cold, eq_comm] using he)
  case probeEpochRetry => exact hsame (by simpa [exec, execProbeEpochRetry, hpru, Pru.cold, eq_comm] using he)
  case roundEpochRetry => exact hsame (by simpa [exec, execRoundEpochRetry, hpru, Pru.cold, eq_comm] using he)
  case ampIsolationRequest => exact hsame (by simpa [exec, execAmpIsolationRequest, hiso, eq_comm] using he)
  case pumpIsolationRequest => exact hsame (by simpa [exec, execPumpIsolationRequest, hiso, eq_comm] using he)
  case stepTimerExpiry j => exact hsame (by simpa [exec, execStepTimerExpiry, hpumps, eq_comm] using he)
  case probeIntervalExpiry => exact hsame (by simpa [exec, execProbeIntervalExpiry, hpru, Pru.cold, eq_comm] using he)
  case probeDriveRequest => exact hsame (by simpa [exec, execProbeDriveRequest, hdrive, eq_comm] using he)
  case probeWindowExpiry => exact hsame (by simpa [exec, execProbeWindowExpiry, hpru, Pru.cold, eq_comm] using he)
  case restoreRequest => exact hsame (by simpa [exec, execRestoreRequest, hrest, eq_comm] using he)
  case gapTimerExpiry => exact hsame (by simpa [exec, execGapTimerExpiry, hpru, Pru.cold, eq_comm] using he)
  case readStatus => exact hport ⟨h.withTpt (by rw [State.respond_tpt, ← hcauses]; rfl), rfl⟩ he
  case readPresence => exact hport ⟨h.respond _, rfl⟩ he
  case readObservation => exact hport ⟨h.withTpt rfl, rfl⟩ he
  case writeDirective =>
    simp only [exec, execWriteDirective, hv, Bool.not_false, if_true] at he
    exact hport ⟨h.respond _, rfl⟩ he
  case clearDirective => exact hport ⟨h.withTpt (k := s.spare) (by rw [← hdir]), rfl⟩ he
  case readRecord i =>
    simp only [exec, execReadRecord, hqueue, List.getElem?_nil] at he
    exact hport ⟨h.respond _, rfl⟩ he
  case advance n =>
    exact hport ⟨h.withTpt (k := s.spare) (by simp [hqueue]), rfl⟩ he
  case clearQueue => exact hport ⟨h.withTpt (k := s.spare) (by simp [hqueue, hover, hgap, hrec, habs]), rfl⟩ he
  case badCommand => exact hport ⟨h.respond _, rfl⟩ he
  case recordTimerExpiry => exact hsame (by simpa [exec, execRecordTimerExpiry, hrec, eq_comm] using he)
  case absoluteTimerExpiry => exact hsame (by simpa [exec, execAbsoluteTimerExpiry, habs, eq_comm] using he)

/-! ### The load's invariant -/

theorem Cfl.isLoading_iff (x : Cfl) (p : LoadPhase) : x.isLoading p = true ↔ x.resetHeld = false ∧ x.phase = p := by
  simp [Cfl.isLoading]

/-- Before DONE the configuration is INVALID (R162). -/
theorem Loaded.invalid_of_phase (h : Loaded s) (hp : s.cfl.phase ≠ .done) : s.cfl.valid = false := by
  obtain ⟨-, hok, hdone, -⟩ := h
  have hnone : s.cfl.result = none := not_not.1 (mt hdone.2 hp)
  rw [Bool.eq_false_iff, ne_eq, hok, hnone]
  exact nofun

theorem Loading.invalid (hl : Loaded s) (h : Loading s t) : s.cfl.valid = false := by
  have hphase {p : LoadPhase} (hp : p ≠ .done) (h : s.cfl.isLoading p = true) : s.cfl.valid = false :=
    hl.invalid_of_phase (((Cfl.isLoading_iff _ _).1 h).2 ▸ hp)
  cases h with
  | start _ h => exact (hl.1 h).1
  | header _ _ _ h => exact hphase (by decide) h
  | body _ _ h => exact hphase (by decide) h
  | absent _ h => exact h.elim (hphase (by decide)) (hphase (by decide))

/-- A failed load: DONE, with its result, INVALID, and the image discarded (R162). -/
theorem loaded_fail {x : Cfl} {r : LoadResult} (hu : s.untouched) (hx : x.valid = false) (hr : r ≠ .ok)
    (hh : x.resetHeld = false) : Loaded { s with cfl := x.fail r } := by
  refine ⟨fun h => ?_, ?_, ?_, ?_, fun _ _ => rfl, fun _ => hu⟩
  · cases hh.symm.trans h
  · simp [Cfl.fail, hx, hr]
  · simp [Cfl.fail]
  · simp [Cfl.fail, hx]

/-- A load that goes on, in a phase before SAMPLING or, its record checked, in SAMPLING. -/
theorem loaded_goesOn {x : Cfl} (hu : s.untouched) (hx : x.valid = false) (hh : x.resetHeld = false)
    (hr : x.result = none) (hp : x.phase ≠ .done)
    (hc : x.phase = .sampling → firstFailure (readCommissioning x.image) x.strap = none) :
    Loaded { s with cfl := x } := by
  refine ⟨fun h => ?_, ?_, ?_, ?_, ?_, fun _ => hu⟩
  · cases hh.symm.trans h
  · simp [hx, hr]
  · simp [hp, hr]
  · rintro (h | h)
    · cases hx.symm.trans h
    · exact hc h
  · exact fun h => absurd h hp

theorem Loaded.loading (hl : Loaded s) (h : Loading s t) : Loaded t ∧ t.untouched ∧ t.cfl.valid = false := by
  have hv := h.invalid hl
  obtain ⟨hheld, -, hdone, -, -, hun⟩ := hl
  have hu := hun hv
  have hnone (hp : s.cfl.phase ≠ .done) : s.cfl.result = none := not_not.1 (mt hdone.2 hp)
  have hload {p : LoadPhase} (hp : p ≠ .done) (h : s.cfl.isLoading p = true) :
      s.cfl.resetHeld = false ∧ s.cfl.result = none :=
    ⟨((Cfl.isLoading_iff _ _).1 h).1, hnone (((Cfl.isLoading_iff _ _).1 h).2 ▸ hp)⟩
  cases h with
  | start strap h =>
    refine ⟨?_, hu, hv⟩
    have hr : s.cfl.result = none := hnone (by rw [(hheld h).2]; exact nofun)
    have := loaded_goesOn (x := { s.cfl with
      resetHeld := false, strap := roleOfStrap strap, clock := 0, phase := .readingHeader }) hu hv rfl hr nofun nofun
    exact this
  | header bus hi lo h =>
    obtain ⟨hh, hr⟩ := hload (by decide) h
    unfold Cfl.takeHeader
    split
    · exact ⟨loaded_fail hu hv nofun hh, hu, hv⟩
    · split
      · exact ⟨loaded_fail hu hv nofun hh, hu, hv⟩
      · exact ⟨loaded_goesOn hu hv hh hr nofun nofun, hu, hv⟩
  | body bus image h =>
    obtain ⟨hh, hr⟩ := hload (by decide) h
    unfold Cfl.check
    split
    · exact ⟨loaded_fail hu hv nofun hh, hu, hv⟩
    · split
      · exact ⟨loaded_fail hu hv nofun hh, hu, hv⟩
      next hpass => exact ⟨loaded_goesOn hu hv hh hr nofun fun _ => hpass, hu, hv⟩
  | absent bus h =>
    have hh : s.cfl.resetHeld = false := h.elim (fun h => (hload (by decide) h).1) (fun h => (hload (by decide) h).1)
    exact ⟨loaded_fail hu hv nofun hh, hu, hv⟩

theorem State.cold_untouched (sw : List Bool) (x : Spi) (k : Nat) (p : List Instr) : (State.cold sw x k p).untouched :=
  ⟨rfl, rfl, rfl, rfl, rfl, rfl, rfl, rfl, rfl, rfl⟩

theorem State.cold_loaded (sw : List Bool) (x : Spi) (k : Nat) (p : List Instr) : Loaded (State.cold sw x k p) :=
  ⟨fun _ => ⟨rfl, rfl⟩, by simp [State.cold, Cfl.cold], by simp [State.cold, Cfl.cold], by simp [State.cold, Cfl.cold],
    by simp [State.cold, Cfl.cold], fun _ => State.cold_untouched sw x k p⟩

theorem State.declare_loaded (raw : Readings) (hc : s.commissioned) (hh : s.cfl.resetHeld = false) :
    Loaded (s.declare raw) := by
  refine ⟨fun h => ?_, ?_, ?_, fun _ => hc, fun _ h => ?_, fun h => ?_⟩
  · cases hh.symm.trans h
  · exact ⟨fun _ => rfl, fun _ => rfl⟩
  · exact ⟨fun _ => nofun, fun _ => rfl⟩
  · cases h
  · cases h

/-- The same load, but for the station clock. -/
theorem Loaded.of_cfl (hl : Loaded s) (hc : t.cfl = { s.cfl with clock := t.cfl.clock })
    (hu : s.cfl.valid = false → t.untouched) : Loaded t := by
  have hcfg : t.cfg = s.cfg := by unfold State.cfg; rw [hc]
  obtain ⟨h1, h2, h3, h4, h5, -⟩ := hl
  unfold Loaded State.commissioned at *
  rw [hcfg, hc]
  exact ⟨h1, h2, h3, h4, h5, hu⟩

/-! ### What the moves leave of the load -/

theorem Move.cfl (h : Move s t) : t.cfl = { s.cfl with clock := t.cfl.clock } := by
  cases h
  case aside h => exact h.cfl
  all_goals simp [State.visited, State.withBypass, State.withIsolation]

theorem Moves.cfl (h : Moves s t) : t.cfl = { s.cfl with clock := t.cfl.clock } := by
  induction h with
  | refl => rfl
  | tail _ hm ih => rw [hm.cfl, ih]

theorem Move.cfg (h : Move s t) : t.cfg = s.cfg := by
  unfold State.cfg
  rw [h.cfl]

theorem Move.valid (h : Move s t) : t.cfl.valid = s.cfl.valid := by rw [h.cfl]

theorem Move.commissioned (h : Move s t) (hc : s.commissioned) : t.commissioned := by
  unfold State.commissioned
  rw [h.cfg, h.cfl]
  exact hc

/-! ### The cases of a step -/

/-- All that a command can be, from a sound load: it leaves the machine untouched and INVALID, it is the declaration of a
commissioned record, or the configuration is VALID and stays. -/
theorem Loaded.exec_cases {c : Instr} (hl : Loaded s) (he : exec c s = .next t) :
    (Loaded t ∧ t.untouched ∧ t.cfl.valid = false ∧ (c = .coldStart ∨ s.cfl.valid = false)) ∨
    (∃ raw, s.untouched ∧ s.commissioned ∧ s.cfl.isLoading .sampling = true ∧ t = s.declare raw) ∨
    (s.cfl.valid = true ∧ s.commissioned ∧ Moves s t) := by
  rcases Machine.exec_cases c he with ⟨rfl, rfl⟩ | ⟨raw, hp, ht⟩ | hload | hm
  · exact .inl ⟨State.cold_loaded .., State.cold_untouched .., rfl, .inl rfl⟩
  · have hphase := ((Cfl.isLoading_iff _ _).1 hp).2
    have hv : s.cfl.valid = false := hl.invalid_of_phase (hphase ▸ nofun)
    obtain ⟨-, -, -, hcomm, -, hun⟩ := hl
    exact .inr (.inl ⟨raw, hun hv, hcomm (.inr hphase), hp, ht⟩)
  · obtain ⟨hlt, hut, hvt⟩ := hl.loading hload
    exact .inl ⟨hlt, hut, hvt, .inr (hload.invalid hl)⟩
  · cases hv : s.cfl.valid
    case true =>
      obtain ⟨-, -, -, hcomm, -, -⟩ := id hl
      exact .inr (.inr ⟨rfl, hcomm (.inl hv), hm⟩)
    case false =>
      by_cases hload : Loading s t
      · obtain ⟨hlt, hut, hvt⟩ := hl.loading hload
        exact .inl ⟨hlt, hut, hvt, .inr rfl⟩
      by_cases hc : c = .coldStart
      · subst hc
        cases he
        exact .inl ⟨State.cold_loaded .., State.cold_untouched .., rfl, .inl rfl⟩
      by_cases hd : ∀ raw, c = .declareValid raw → s.cfl.isLoading .sampling = false
      · obtain ⟨-, -, -, -, -, hun⟩ := id hl
        obtain ⟨hut, hcfl⟩ := exec_untouched (hun hv) hv he hload hd hc
        have hvt : t.cfl.valid = false := by rw [hcfl]; exact hv
        exact .inl ⟨hl.of_cfl hcfl fun _ => hut, hut, hvt, .inr rfl⟩
      · push Not at hd
        obtain ⟨raw, rfl, hp⟩ := hd
        have hp : s.cfl.isLoading .sampling = true := by simpa using hp
        obtain ⟨-, -, -, hcomm, -, hun⟩ := id hl
        simp only [exec, execDeclareValid, hp, if_true] at he
        cases he
        exact .inr (.inl ⟨raw, hun hv, hcomm (.inr ((Cfl.isLoading_iff _ _).1 hp).2), hp, rfl⟩)

end

/-- What a cold start, the declaration and every move keep, every step keeps (from a sound load). -/
theorem step_keeps {P : State → Prop} (h0 : ∀ s : State, s.untouched → s.cfl.valid = false → P s)
    (hd : ∀ (s : State) (raw : Readings), s.untouched → s.commissioned → P (s.declare raw))
    (hm : ∀ s t : State, s.cfl.valid = true → s.commissioned → Move s t → P s → P t)
    {s t : State} (hl : Loaded s) (hs : P s) (h : step s = .next t) : P t := by
  have hmoves {u : State} (hv : u.cfl.valid = true) (hc : u.commissioned) (hu : P u) (h : Moves u t) : P t := by
    induction h using Relation.ReflTransGen.head_induction_on with
    | refl => exact hu
    | head hmove _ ih => exact ih (hmove.valid.trans hv) (hmove.commissioned hc) (hm _ _ hv hc hmove hu)
  have haside {u : State} (ha : Aside s u) (hu : s.cfl.valid = false → u.untouched ∧ u.cfl.valid = false) : P u := by
    cases hv : s.cfl.valid with
    | false => exact h0 u (hu hv).1 (hu hv).2
    | true =>
      obtain ⟨-, -, -, hcomm, -, -⟩ := hl
      exact hm s u hv (hcomm (.inl hv)) (.aside ha) hs
  have hun (hv : s.cfl.valid = false) : s.untouched := by
    obtain ⟨-, -, -, -, -, hun⟩ := hl
    exact hun hv
  have hexec {c : Instr} {u : State} (hlu : Loaded u) (hu : P u) (he : exec c u = .next t) : P t := by
    rcases hlu.exec_cases he with ⟨-, hut, hvt, -⟩ | ⟨raw, hu0, hc, -, ht⟩ | ⟨hv, hc, hms⟩
    · exact h0 t hut hvt
    · rw [ht]; exact hd u raw hu0 hc
    · exact hmoves hv hc hu hms
  rcases step_cases s t h with ⟨c, rest, -, he⟩ | ⟨-, -, c, spi, -, he⟩ | ⟨-, spi, ht⟩ | ⟨-, -, ht⟩
  · exact hexec (u := { s with pending := rest }) hl
      (haside ⟨rfl, rfl, rfl, rfl, rfl, rfl, rfl, id, id⟩ fun hv => ⟨hun hv, hv⟩) he
  · exact hexec (u := { s with spi := spi }) hl
      (haside ⟨rfl, rfl, rfl, rfl, rfl, rfl, rfl, id, id⟩ fun hv => ⟨hun hv, hv⟩) he
  · rw [ht]
    exact haside ⟨rfl, rfl, rfl, rfl, rfl, rfl, rfl, id, id⟩ fun hv => ⟨hun hv, hv⟩
  · rw [ht]
    exact haside ⟨rfl, rfl, rfl, rfl, rfl, rfl, rfl, id, id⟩ fun hv => ⟨hun hv, hv⟩

end Sys2Proof.Machine
end

section
/-! What VALID fixes (O51): the lengths of the tables, the meters in use, the timers that run. -/

namespace Sys2Proof.Machine

section
variable {s t : State}

@[simp] theorem State.cfg_pumps_length (s : State) : s.cfg.pumps.length = s.cfg.m :=
  readCommissioning_pumps_length _

/-! ### Meters -/

theorem InputMeter.sample_isTracking (c : Commissioning) (raw : Int) (m : InputMeter) :
    (m.sample c raw).isTracking = m.isTracking := by cases m <;> rfl

theorem OutputMeter.sample_isTracking (c : Commissioning) (raw : Int) (m : OutputMeter) :
    (m.sample c raw).isTracking = m.isTracking := by cases m <;> rfl

/-- A list zipped with one of eight readings keeps what each meter keeps. -/
theorem map_zipWith_readings {μ β : Type} {g : μ → Int → μ} {f : μ → β} (hg : ∀ m r, f (g m r) = f m) {l : List μ}
    (hl : l.length = 8) (raw : Vector Int 8) : (List.zipWith g l raw.toList).map f = l.map f := by
  apply List.ext_getElem?
  intro a
  rw [List.getElem?_map, List.getElem?_map, List.getElem?_zipWith]
  cases hm : l[a]? with
  | none => simp
  | some m =>
    have ha : a < raw.toList.length := by simpa [hl] using (List.getElem?_eq_some_iff.1 hm).1
    simp [List.getElem?_eq_getElem ha, hg]

theorem Lmu.sampleSet_inputs_isTracking (c : Commissioning) (raw : Readings) {l : Lmu} (hl : l.inputs.length = 8) :
    (l.sampleSet c raw).inputs.map InputMeter.isTracking = l.inputs.map InputMeter.isTracking :=
  map_zipWith_readings (fun m r => InputMeter.sample_isTracking c r m) hl _

theorem Lmu.sampleSet_outputs_isTracking (c : Commissioning) (raw : Readings) {l : Lmu} (hl : l.outputs.length = 8) :
    (l.sampleSet c raw).outputs.map OutputMeter.isTracking = l.outputs.map OutputMeter.isTracking :=
  map_zipWith_readings (fun m r => OutputMeter.sample_isTracking c r m) hl _

/-! ### The tables -/

/-- The lengths of the FLT's tables, and whether its epoch timer runs. -/
structure Flt.SameShape (f g : Flt) : Prop where
  refs : g.refs.length = f.refs.length
  spans : g.spans.length = f.spans.length
  amps : g.amps.length = f.amps.length
  pumps : g.pumps.length = f.pumps.length
  settle : g.settle.length = f.settle.length
  epoch : f.epoch.isSome = true → g.epoch.isSome = true

/-- The lengths of the PBC's lists. -/
structure Pbc.SameShape (p q : Pbc) : Prop where
  pumps : q.pumps.length = p.pumps.length
  bypass : q.bypass.length = p.bypass.length

@[simp] theorem Pbc.retarget_length (p : Pbc) (c : Commissioning) (now : Moment) :
    (p.retarget c now).pumps.length = p.pumps.length := by simp [Pbc.retarget]

@[simp] theorem Pbc.retarget_bypass (p : Pbc) (c : Commissioning) (now : Moment) :
    (p.retarget c now).bypass = p.bypass := rfl

theorem Flt.startSettle_shape (c : Commissioning) (now : Moment) (j : Nat) (f : Flt) :
    f.SameShape (f.startSettle c now j) := by
  constructor <;> simp [Flt.startSettle]

theorem Flt.SameShape.trans {f g h : Flt} (h1 : f.SameShape g) (h2 : g.SameShape h) : f.SameShape h :=
  ⟨h2.refs.trans h1.refs, h2.spans.trans h1.spans, h2.amps.trans h1.amps, h2.pumps.trans h1.pumps,
    h2.settle.trans h1.settle, h2.epoch ∘ h1.epoch⟩

theorem State.judged_shape (s : State) : s.flt.SameShape s.judged := by
  constructor <;> simp [State.judged, State.stage1, State.stage2, State.stage3, State.stage4]

theorem Flt.warm_shape (clock : Nat) (now : Moment) (l : Lmu) (f : Flt) : f.SameShape (f.warm clock now l) := by
  constructor <;> simp [Flt.warm, Flt.takeClasses]

@[simp] theorem State.deliverClass_flt (s : State) (ev : ClassChange) :
    (s.deliverClass ev).flt = s.flt.classChange s.cfg s.cfl.clock ev := by
  unfold State.deliverClass
  dsimp only
  split <;> split <;> rfl

/-- The FLT keeps its shape in every move. -/
theorem Move.flt_shape (h : Move s t) : s.flt.SameShape t.flt := by
  have hrefl : s.flt.SameShape s.flt := ⟨rfl, rfl, rfl, rfl, rfl, id⟩
  cases h
  case aside h => rw [h.flt]; exact hrefl
  case classChange ev => rw [State.deliverClass_flt]; constructor <;> simp [Flt.classChange]
  case tracker => rw [State.onTracker_flt]; exact hrefl
  case wake => rw [State.setBank_flt]; exact hrefl
  case visit => rw [State.visited, State.setBank_flt]; exact hrefl
  case presence => rw [State.presenceChange_flt, State.visited, State.setBank_flt]; exact hrefl
  case tellFlt q => constructor <;> simp [Flt.hear]
  case settle j => exact Flt.startSettle_shape _ _ _ _
  case probeResult => constructor <;> simp [Flt.probeResult]
  case withdraw => constructor <;> simp
  case epoch => exact ⟨rfl, rfl, rfl, rfl, rfl, fun _ => rfl⟩
  case judged => exact s.judged_shape
  case bypass => constructor <;> simp [State.withBypass]
  case isolate => constructor <;> simp [State.withIsolation]
  case release => constructor <;> simp [State.release]
  case rereference => constructor <;> simp [State.rereference, Flt.clearForRereference]
  case restart =>
    unfold State.warmRestart
    dsimp only [State.report_flt]
    split
    · exact (Flt.startSettle_shape _ _ _ _).trans (Flt.warm_shape _ _ _ _)
    · exact Flt.warm_shape _ _ _ _
  all_goals exact hrefl

theorem Pbc.hear_shape (p : Pbc) (c : Commissioning) (now : Moment) (rs : List Neighbour) (q : Nat) :
    p.SameShape (p.hear c now rs q) := ⟨by simp [Pbc.hear], rfl⟩

theorem Pbc.SameShape.trans {p q r : Pbc} (h1 : p.SameShape q) (h2 : q.SameShape r) : p.SameShape r :=
  ⟨h2.pumps.trans h1.pumps, h2.bypass.trans h1.bypass⟩

/-- What records created and removed with the captures keep: a relation on the PBC that holds of it and itself, and that every
re-examination of the Demand List extends (R72, R78, R143). -/
theorem State.followCaptures_pbc {P : Pbc → Prop} {b : Bank} {steps : List CaptureStep}
    (hear : ∀ p rs q, P p → P (p.hear s.cfg s.now rs q)) (h : P s.pbc) : P (s.followCaptures b steps).pbc := by
  unfold State.followCaptures
  induction steps generalizing s with
  | nil => exact h
  | cons x rest ih =>
    cases x with
    | created q => exact ih (s := s.createRecord b q) hear h
    | removed q => exact ih (s := s.removeRecord q) hear (hear s.pbc _ q h)

theorem State.presenceChange_pbc {P : Pbc → Prop} {b : Bank} {q : Nat} {old new : Presence}
    (hear : ∀ p rs q, P p → P (p.hear s.cfg s.now rs q)) (h : P s.pbc) : P (s.presenceChange b q old new).pbc := by
  unfold State.presenceChange
  rw [State.offerAll_pbc]
  refine State.followCaptures_pbc ?_ (by rw [State.setBank_pbc]; exact h)
  rw [State.setBank_cfg, State.setBank_now]
  exact hear

theorem Move.pbc_shape (h : Move s t) : s.pbc.SameShape t.pbc := by
  have hrefl : s.pbc.SameShape s.pbc := ⟨rfl, rfl⟩
  cases h
  case aside h => rw [h.pbc]; exact ⟨rfl, rfl⟩
  case classChange ev => rw [State.deliverClass_pbc]; exact hrefl
  case tracker => rw [State.onTracker_pbc]; exact hrefl
  case wake => rw [State.setBank_pbc]; exact hrefl
  case visit => rw [State.visited, State.setBank_pbc]; exact hrefl
  case presence b w o old _ =>
    refine State.presenceChange_pbc (P := s.pbc.SameShape) (fun p rs q h => h.trans (p.hear_shape _ _ _ _)) ?_
    rw [State.visited, State.setBank_pbc]
    exact hrefl
  case tellPbc q => exact Pbc.hear_shape ..
  case bypass => constructor <;> simp [State.withBypass]
  case remap => constructor <;> simp [Pbc.remap]
  case isolate => constructor <;> simp [State.withIsolation]
  case stepOnce => constructor <;> simp
  case lower => constructor <;> simp
  case restore => constructor <;> simp
  case release => constructor <;> simp [State.release]
  case restart => constructor <;> simp [State.warmRestart, Pbc.warm]
  all_goals exact ⟨rfl, rfl⟩

/-- The meters keep their states, and the sample epoch timer, once started, runs on (R2, R3). -/
theorem Move.lmu_shape (h : Move s t) (hin : s.lmu.inputs.length = 8) (hout : s.lmu.outputs.length = 8)
    (he : s.lmu.epoch.isSome = true) :
    t.lmu.inputs.map InputMeter.isTracking = s.lmu.inputs.map InputMeter.isTracking ∧
      t.lmu.outputs.map OutputMeter.isTracking = s.lmu.outputs.map OutputMeter.isTracking ∧
      t.lmu.epoch.isSome = true := by
  cases h
  case sampleMeters raw d =>
    exact ⟨Lmu.sampleSet_inputs_isTracking _ raw hin, Lmu.sampleSet_outputs_isTracking _ raw hout, rfl⟩
  case aside h => rw [h.lmu]; exact ⟨rfl, rfl, he⟩
  all_goals simp [he, State.visited, State.withBypass, State.withIsolation]

theorem Ttx.remark_silent {m : Marker} {x : Ttx} (h : x.remark m = .silent) : x = .silent := by
  cases x
  · rfl
  · cases h

theorem Move.sending (h : Move s t) (hs : t.ttx = .silent) : s.ttx = .silent := by
  cases h
  case aside h => exact h.sending hs
  case release => exact Ttx.remark_silent hs
  case rereference => exact Ttx.remark_silent hs
  case restart => exact Ttx.remark_silent hs
  all_goals simpa [State.visited, State.withBypass, State.withIsolation] using hs

theorem Move.shaped (h : Move s t) (hs : Shaped s) : Shaped t := by
  intro hv
  obtain ⟨hin, hout, hrefs, hspans, hamps, hsettle, hpumps, hpp, hbyp, httx, hep, hfep⟩ := hs (h.valid ▸ hv)
  have hlen {μ : Type} {f : μ → Bool} {l : List μ} {n : Nat}
      (h : l.map f = (List.range 8).map fun a => decide (a < n)) : l.length = 8 := by
    simpa using congrArg List.length h
  obtain ⟨hin', hout', hep'⟩ := h.lmu_shape (hlen hin) (hlen hout) hep
  rw [h.cfg]
  exact ⟨hin'.trans hin, hout'.trans hout, h.flt_shape.refs.trans hrefs, h.flt_shape.spans.trans hspans,
    h.flt_shape.amps.trans hamps, h.flt_shape.settle.trans hsettle, h.flt_shape.pumps.trans hpumps,
    h.pbc_shape.pumps.trans hpp, h.pbc_shape.bypass.trans hbyp, mt h.sending httx, hep', h.flt_shape.epoch hfep⟩

/-- What the first sample set leaves of a meter, by its index (R2). -/
theorem mapIdx_isTracking {μ : Type} {f : Nat → Int → μ} {p : μ → Bool} {n : Nat} (hf : ∀ a r, p (f a r) = decide (a < n))
    (raw : Vector Int 8) : (raw.toList.mapIdx f).map p = (List.range 8).map fun a => decide (a < n) := by
  apply List.ext_getElem
  · simp
  · intro a h1 h2
    simp [hf]

theorem State.declare_shaped (s : State) (raw : Readings) : Shaped (s.declare raw) := by
  intro _
  rw [show (s.declare raw).cfg = s.cfg from rfl]
  refine ⟨mapIdx_isTracking (fun a r => ?_) _, mapIdx_isTracking (fun a r => ?_) _, ?_, ?_, ?_, ?_, ?_, ?_, ?_, nofun, rfl,
    rfl⟩
  · by_cases h : a < s.cfg.ampCount <;> simp [h, InputMeter.first, InputMeter.isTracking]
  · by_cases h : a < s.cfg.ampCount <;> simp [h, OutputMeter.first, OutputMeter.isTracking]
  · exact readCommissioning_refs_length _
  · simp [State.declare, State.startSending, Flt.start, Flt.takeClasses]
  · simp [State.declare, State.startSending, Flt.start, Flt.takeClasses]
  · simp [State.declare, State.startSending, Flt.start, Flt.takeClasses]
  · simp [State.declare, State.startSending, Flt.start, Flt.takeClasses]
  · simp [State.declare, State.startSending, Pbc.start]
  · simp [State.declare, State.startSending, Pbc.start]

end

/-- While the load is sound, so is every next one (R162, R168). -/
theorem Loaded.step {s t : State} (hl : Loaded s) (h : step s = .next t) : Loaded t := by
  have hexec {c : Instr} {u : State} (hlu : Loaded u) (he : exec c u = .next t) : Loaded t := by
    rcases hlu.exec_cases he with ⟨hlt, -⟩ | ⟨raw, -, hc, hp, rfl⟩ | ⟨hv, -, hms⟩
    · exact hlt
    · exact State.declare_loaded raw hc ((Cfl.isLoading_iff _ _).1 hp).1
    · exact hlu.of_cfl hms.cfl fun h => by cases hv.symm.trans h
  rcases step_cases s t h with ⟨c, rest, -, he⟩ | ⟨-, -, c, spi, -, he⟩ | ⟨-, spi, rfl⟩ | ⟨-, -, rfl⟩
  · exact hexec (u := { s with pending := rest }) hl he
  · exact hexec (u := { s with spi := spi }) hl he
  · exact hl
  · exact hl

/-- Settles O51: the load's invariant is kept by every case of a step; the shape is built by the declaration and kept by every
move; and while VALID only a cold start is no chain of moves, which leave the image and the strap alone. -/
theorem everyStepKeepsTheConfiguration : Obligations.EveryStepKeepsTheConfiguration := by
  intro s t hl hs h
  refine ⟨hl.step h, ?shape, fun hv hcold => ?stays⟩
  case shape =>
    refine step_keeps (P := Shaped) (fun u _ hv h => ?_) (fun u raw _ _ => State.declare_shaped u raw)
      (fun u v _ _ hm hu => hm.shaped hu) hl hs h
    cases hv.symm.trans h
  case stays =>
    have hkept (hc : t.cfl = { s.cfl with clock := t.cfl.clock }) :
        t.cfl.valid = true ∧ t.cfl.image = s.cfl.image ∧ t.cfl.strap = s.cfl.strap := by
      rw [hc]
      exact ⟨hv, rfl, rfl⟩
    have hexec {c : Instr} {u : State} (hu : u.cfl = s.cfl) (hlu : Loaded u) (hc : c ≠ .coldStart)
        (he : exec c u = .next t) : t.cfl.valid = true ∧ t.cfl.image = s.cfl.image ∧ t.cfl.strap = s.cfl.strap := by
      rw [← hu] at hv
      rcases hlu.exec_cases he with ⟨-, -, -, hcold | hinv⟩ | ⟨raw, -, -, hp, -⟩ | ⟨-, -, hms⟩
      · exact absurd hcold hc
      · cases hv.symm.trans hinv
      · cases hv.symm.trans (hlu.invalid_of_phase (((Cfl.isLoading_iff _ _).1 hp).2 ▸ nofun))
      · exact hkept (hu ▸ hms.cfl)
    rcases step_cases s t h with ⟨c, rest, hp, he⟩ | ⟨-, bits, c, spi, hd, he⟩ | ⟨-, spi, rfl⟩ | ⟨-, -, rfl⟩
    · exact hexec (u := { s with pending := rest }) rfl hl (fun hc => hcold (by rw [hp, hc]; rfl)) he
    · exact hkept ((taken_touch bits c _ t hd he).cfl rfl ▸ rfl)
    · exact hkept rfl
    · exact hkept rfl

end Sys2Proof.Machine
end

section
/-! The meters (R4 to R7): a smoothing step never overshoots (O14), so every smoothed value stays in range (O52). -/

namespace Sys2Proof.Machine

/-! ### The smoothing step -/

/-- The step of R6 lies between no step and the whole difference. -/
theorem smoothStep_between (k : Nat) (d : Int) :
    (0 ≤ d → 0 ≤ smoothStep k d ∧ smoothStep k d ≤ d) ∧ (d ≤ 0 → d ≤ smoothStep k d ∧ smoothStep k d ≤ 0) := by
  unfold smoothStep
  cases k with
  | zero => simp
  | succ k =>
    rw [if_neg (Nat.succ_ne_zero k), Nat.add_sub_cancel, pow_succ]
    have hh : (1 : Int) ≤ 2 ^ k := one_le_pow₀ (by decide)
    generalize (2 : Int) ^ k = h at hh
    have hpos : 0 < h * 2 := by omega
    refine ⟨fun hd => ⟨Int.ediv_nonneg (by omega) (by omega), ?_⟩, fun hd => ⟨?_, ?_⟩⟩
    · rcases hd.eq_or_lt with rfl | hd
      · exact (Int.ediv_eq_zero_of_lt (by omega) (by omega)).le
      · refine Int.le_of_lt_add_one (Int.ediv_lt_of_lt_mul hpos ?_)
        nlinarith
    · refine Int.le_ediv_of_mul_le hpos ?_
      nlinarith
    · refine Int.le_of_lt_add_one (Int.ediv_lt_of_lt_mul hpos ?_)
      omega

theorem smooth_between (k : Nat) {old r : Int} :
    (old ≤ r → old ≤ smooth k old r ∧ smooth k old r ≤ r) ∧ (r ≤ old → r ≤ smooth k old r ∧ smooth k old r ≤ old) := by
  obtain ⟨hup, hdown⟩ := smoothStep_between k (r - old)
  unfold smooth
  refine ⟨fun h => ?_, fun h => ?_⟩
  · have := hup (by omega)
    omega
  · have := hdown (by omega)
    omega

/-- Settles O14: by the bounds of the step, which is 0 where the difference is. -/
theorem smoothingNeverOvershoots : Obligations.SmoothingNeverOvershoots := by
  intro k old r
  obtain ⟨hup, hdown⟩ := smooth_between k (old := old) (r := r)
  refine ⟨fun h => hup h.le, fun h => hdown h.le, fun h => ?_⟩
  subst h
  exact le_antisymm (hup le_rfl).2 (hup le_rfl).1

/-! ### Values in range (R4, R7) -/

/-- Within the bounds of a clamped reading (R4). -/
def PowerInRange (x : Int) : Prop := Config.powerMin ≤ x ∧ x ≤ Config.powerMax

theorem clampReading_inRange (raw : Int) : PowerInRange (clampReading raw) := by
  simp only [PowerInRange, clampReading, clampTo, Config.powerMin, Config.powerMax]
  omega

theorem smooth_inRange (k : Nat) {old r : Int} (ho : PowerInRange old) (hr : PowerInRange r) :
    PowerInRange (smooth k old r) := by
  obtain ⟨ho1, ho2⟩ := ho
  obtain ⟨hr1, hr2⟩ := hr
  obtain ⟨hup, hdown⟩ := smooth_between k (old := old) (r := r)
  rcases le_total old r with h | h
  · exact ⟨ho1.trans (hup h).1, (hup h).2.trans hr2⟩
  · exact ⟨hr1.trans (hdown h).1, (hdown h).2.trans ho2⟩

/-- The smoothed values that meters hold are in range. -/
def Lmu.InRange (l : Lmu) : Prop :=
  (∀ m ∈ l.inputs, ∀ x, m.smoothed? = some x → PowerInRange x) ∧
    ∀ m ∈ l.outputs, ∀ x, m.smoothed? = some x → PowerInRange x

theorem metersInRange_iff (s : State) : MetersInRange s ↔ s.lmu.InRange := by
  have h (o : Option Int) :
      o.all (Machine.inRange Config.powerMin Config.powerMax) = true ↔ ∀ x, o = some x → PowerInRange x := by
    cases o <;> simp [PowerInRange, Within]
  simp only [MetersInRange, Lmu.InRange, h]

theorem InputMeter.sample_inRange {c : Commissioning} {raw x : Int} {m : InputMeter}
    (hm : ∀ x, m.smoothed? = some x → PowerInRange x) (h : (m.sample c raw).smoothed? = some x) : PowerInRange x := by
  cases m with
  | tracking last old cls =>
    cases h
    exact smooth_inRange _ (hm old rfl) (clampReading_inRange raw)
  | unsampled => cases h
  | outOfUse => cases h

theorem OutputMeter.sample_inRange {c : Commissioning} {raw x : Int} {m : OutputMeter}
    (hm : ∀ x, m.smoothed? = some x → PowerInRange x) (h : (m.sample c raw).smoothed? = some x) : PowerInRange x := by
  cases m with
  | tracking last old =>
    cases h
    exact smooth_inRange _ (hm old rfl) (clampReading_inRange raw)
  | unsampled => cases h
  | outOfUse => cases h

theorem mem_zipWith {α β γ : Type} {f : α → β → γ} {l : List α} {r : List β} {z : γ} (h : z ∈ List.zipWith f l r) :
    ∃ x ∈ l, ∃ y, z = f x y := by
  obtain ⟨i, hi⟩ := List.mem_iff_getElem?.1 h
  rw [List.getElem?_zipWith] at hi
  split at hi
  next x y hx _ =>
    cases hi
    exact ⟨x, List.mem_of_getElem? hx, y, rfl⟩
  next => cases hi

theorem Lmu.sampleSet_inRange (c : Commissioning) (raw : Readings) {l : Lmu} (h : l.InRange) :
    (l.sampleSet c raw).InRange := by
  refine ⟨fun m hm x hx => ?_, fun m hm x hx => ?_⟩
  · obtain ⟨m, hmem, r, rfl⟩ := mem_zipWith hm
    exact InputMeter.sample_inRange (h.1 m hmem) hx
  · obtain ⟨m, hmem, r, rfl⟩ := mem_zipWith hm
    exact OutputMeter.sample_inRange (h.2 m hmem) hx

theorem Lmu.firstSet_inRange (c : Commissioning) (raw : Readings) (l : Lmu) : (l.firstSet c raw).InRange := by
  refine ⟨fun m hm x hx => ?_, fun m hm x hx => ?_⟩
  · obtain ⟨a, ha, rfl⟩ := List.mem_mapIdx.1 hm
    split at hx <;> cases hx
    exact clampReading_inRange _
  · obtain ⟨a, ha, rfl⟩ := List.mem_mapIdx.1 hm
    split at hx <;> cases hx
    exact clampReading_inRange _

theorem Lmu.cold_inRange : Lmu.cold.InRange := by
  constructor <;> intro m hm x hx <;> rw [List.eq_of_mem_replicate hm] at hx <;> cases hx

theorem Move.metersInRange {s t : State} (h : Move s t) (hs : s.lmu.InRange) : t.lmu.InRange := by
  cases h
  case sampleMeters raw d => exact Lmu.sampleSet_inRange s.cfg raw hs
  case aside h => rw [h.lmu]; exact hs
  all_goals simpa [State.visited, State.withBypass, State.withIsolation] using hs

/-- Settles O52: the first set and a cold start hold values in range, and a later one smooths between values in range. -/
theorem everyStepKeepsTheMetersInRange : Obligations.EveryStepKeepsTheMetersInRange := by
  intro s t hs h
  rw [metersInRange_iff] at hs ⊢
  have hexec {c : Instr} {u : State} (hu : u.lmu.InRange) (he : exec c u = .next t) : t.lmu.InRange := by
    rcases exec_cases c he with ⟨-, rfl⟩ | ⟨raw, -, rfl⟩ | hload | hm
    · exact Lmu.cold_inRange
    · exact Lmu.firstSet_inRange u.cfg raw u.lmu
    · cases hload <;> exact hu
    · clear he
      induction hm using Relation.ReflTransGen.head_induction_on with
      | refl => exact hu
      | head hmove _ ih => exact ih (hmove.metersInRange hu)
  rcases step_cases s t h with ⟨c, rest, -, he⟩ | ⟨-, -, c, spi, -, he⟩ | ⟨-, spi, rfl⟩ | ⟨-, -, rfl⟩
  · exact hexec (u := { s with pending := rest }) hs he
  · exact hexec (u := { s with spi := spi }) hs he
  · exact hs
  · exact hs

end Sys2Proof.Machine
end

section
/-! The drives of the pumps (O54): every operation of the PBC keeps each applied drive in its range, and every recomputation of the
targets makes them current. -/

namespace Sys2Proof.Machine

section
variable {s t : State}

/-! ### Lists -/

theorem getElem?_mapIdx_some {α β : Type} {f : Nat → α → β} {l : List α} {j : Nat} {y : β} :
    (l.mapIdx f)[j]? = some y ↔ ∃ x, l[j]? = some x ∧ f j x = y := by
  rw [List.getElem?_mapIdx, Option.map_eq_some_iff]

theorem getElem?_modify_some {α : Type} {f : α → α} {l : List α} {i j : Nat} {y : α} (h : (l.modify i f)[j]? = some y) :
    ∃ x, l[j]? = some x ∧ y = if i = j then f x else x := by
  rw [List.getElem?_modify] at h
  obtain ⟨x, hx, rfl⟩ := Option.map_eq_some_iff.1 h
  exact ⟨x, hx, rfl⟩

/-! ### The parameters of a pump (R167, check 13) -/

theorem State.commissioned.pump_order (hc : s.commissioned) (j : Nat) :
    (s.cfg.pump j).floor ≤ (s.cfg.pump j).base ∧ (s.cfg.pump j).base ≤ (s.cfg.pump j).ceiling := by
  have hlen : s.cfg.pumps.length = s.cfg.m := s.cfg_pumps_length
  by_cases hj : j < s.cfg.m
  · obtain ⟨p, hp, hfloor, hceil, -⟩ :=
      (pumpsCheck_iff hlen).1 (checkPasses_of_firstFailure_eq_none hc (by decide) (by decide)) j hj
    have heq : s.cfg.pump j = p :=
      Option.some_inj.1 ((Commissioning.pumps_getElem? (hj.trans_eq hlen.symm)).symm.trans hp)
    rw [heq]
    exact ⟨hfloor, hceil⟩
  · have hnone : s.cfg.pumps[j]? = none := List.getElem?_eq_none (by omega)
    rw [Commissioning.pump, List.getD_eq_getElem?_getD, hnone]
    exact ⟨le_refl 0, le_refl 0⟩

theorem State.commissioned.floor_le_ceiling (hc : s.commissioned) (j : Nat) :
    (s.cfg.pump j).floor ≤ (s.cfg.pump j).ceiling := (hc.pump_order j).1.trans (hc.pump_order j).2

/-! ### One pump -/

/-- What is sound of a pump before its target and its step timer are seen to (R131, R139). -/
structure Pump.Driven (k : PumpConfig) (x : Pump) : Prop where
  off : x.state = .off → x.applied = 0
  lit : x.state ≠ .off → k.floor ≤ x.applied ∧ x.applied ≤ k.ceiling
  preProbe : x.preProbe.isSome = (x.state == .probe)
  preProbeRange : ∀ d, x.preProbe = some d → k.floor ≤ d ∧ d ≤ k.ceiling

theorem Pump.driven_of_sound {k : PumpConfig} {x : Pump} (h : pumpSound k x) : Pump.Driven k x := by
  obtain ⟨-, hoff, hlit, -, hpre, hrange⟩ := h
  exact ⟨hoff, hlit, hpre, fun d hd => by simpa [hd] using hrange⟩

theorem Pump.Driven.withTarget {k : PumpConfig} {x : Pump} (h : Pump.Driven k x) (target : Nat) :
    Pump.Driven k { x with target := target } := ⟨h.off, h.lit, h.preProbe, h.preProbeRange⟩

theorem Pump.Driven.sound {k : PumpConfig} {x : Pump} (h : Pump.Driven k x) (ht : k.floor ≤ x.target ∧ x.target ≤ k.ceiling)
    (hstep : x.step.isSome = x.busy) : pumpSound k x :=
  ⟨ht, h.off, h.lit, hstep, h.preProbe, by
    cases hd : x.preProbe with
    | none => rfl
    | some d => simpa using h.preProbeRange d hd⟩

/-- R133 leaves a sound pump, whatever the step timer was. -/
theorem Pump.Driven.ramp_sound {k : PumpConfig} {x : Pump} (now : Moment) (h : Pump.Driven k x)
    (ht : k.floor ≤ x.target ∧ x.target ≤ k.ceiling) : pumpSound k (x.ramp k now) := by
  unfold Pump.ramp
  cases hb : x.busy with
  | false => exact Pump.Driven.sound (x := { x with step := none }) ⟨h.off, h.lit, h.preProbe, h.preProbeRange⟩ ht hb.symm
  | true =>
    have hactive : x.state = .active := by
      unfold Pump.busy at hb
      simp at hb
      exact hb.1
    by_cases hk : k.interval = 0
    · simp only [hk, if_true]
      refine Pump.Driven.sound (x := { x with applied := x.target, step := none }) ⟨fun ho => ?_, fun _ => ht, h.preProbe,
        h.preProbeRange⟩ ht ?_
      · cases hactive.symm.trans ho
      · simp [Pump.busy]
    · simp only [hk, if_true, if_false]
      exact Pump.Driven.sound (x := { x with step := some _ }) ⟨h.off, h.lit, h.preProbe, h.preProbeRange⟩ ht hb.symm

theorem Pump.Driven.toActive {k : PumpConfig} (hk : k.floor ≤ k.ceiling) (x : Pump) : Pump.Driven k (x.toActive k) :=
  ⟨nofun, fun _ => ⟨le_refl _, hk⟩, rfl, nofun⟩

theorem Pump.Driven.toOff {k : PumpConfig} (x : Pump) : Pump.Driven k x.toOff :=
  ⟨fun _ => rfl, fun h => absurd rfl h, rfl, nofun⟩

theorem Pump.Driven.toRemap {k : PumpConfig} (hk : k.floor ≤ k.ceiling) (x : Pump) : Pump.Driven k (x.toRemap k) := by
  unfold Pump.toRemap
  split
  · exact .toOff x
  · exact ⟨nofun, fun _ => ⟨le_refl _, hk⟩, rfl, nofun⟩

theorem Pump.Driven.withLatch {k : PumpConfig} {x : Pump} (h : Pump.Driven k x) (latch : Bool) :
    Pump.Driven k { x with latch := latch } := ⟨h.off, h.lit, h.preProbe, h.preProbeRange⟩

theorem Pump.Driven.remap {k : PumpConfig} {x : Pump} (hk : k.floor ≤ k.ceiling) (h : Pump.Driven k x) (wholly : Bool) :
    Pump.Driven k (x.remap k wholly) := by
  unfold Pump.remap
  split
  · exact h
  · split
    · exact .toRemap hk x
    · exact .toRemap hk x
    · exact .toActive hk x
    · exact .toActive hk x
    · exact h

theorem Pump.Driven.released {k : PumpConfig} {x : Pump} (hk : k.floor ≤ k.ceiling) (h : Pump.Driven k x) :
    Pump.Driven k (x.released k) := by
  unfold Pump.released
  split
  · exact (Pump.Driven.toActive hk x).withLatch _
  · exact (Pump.Driven.toActive hk x).withLatch _
  · exact h.withLatch _

theorem Pump.Driven.start {k : PumpConfig} (hk : k.floor ≤ k.ceiling) : Pump.Driven k (Pump.start k) :=
  ⟨nofun, fun _ => ⟨le_refl _, hk⟩, rfl, nofun⟩

theorem Pump.Driven.warm {k : PumpConfig} {x : Pump} (hk : k.floor ≤ k.base ∧ k.base ≤ k.ceiling) (h : Pump.Driven k x) :
    Pump.Driven k (x.warm k) := by
  unfold Pump.warm
  split
  case h_1 hs =>
    refine ⟨fun ho => absurd (hs.symm.trans ho) (by decide), fun _ => ?_, h.preProbe, h.preProbeRange⟩
    dsimp only
    split
    · exact h.lit (by rw [hs]; decide)
    · exact hk
  case h_2 hs =>
    refine ⟨nofun, fun _ => ?_, rfl, nofun⟩
    obtain ⟨d, hd⟩ := Option.isSome_iff_exists.1 (show x.preProbe.isSome = true by rw [h.preProbe, hs]; rfl)
    dsimp only
    split
    · rw [hd]
      exact h.preProbeRange d hd
    · exact hk
  case h_3 => exact ⟨h.off, h.lit, h.preProbe, h.preProbeRange⟩

/-- One step stays between the applied drive and the target (R133). -/
theorem stepToward_between (size applied target : Nat) :
    min applied target ≤ stepToward size applied target ∧ stepToward size applied target ≤ max applied target := by
  unfold stepToward
  split <;> omega

theorem pumpSound_stepOnce {k : PumpConfig} {x : Pump} {d : Moment} (h : pumpSound k x) (hd : x.step = some d) :
    pumpSound k (x.stepOnce k d) := by
  have hb : x.busy = true := by
    have hstep : x.step.isSome = x.busy := h.2.2.2.1
    rw [← hstep, hd]
    rfl
  have hactive : x.state = .active := by
    unfold Pump.busy at hb
    simp at hb
    exact hb.1
  have hx := Pump.driven_of_sound h
  have hlit := hx.lit (by rw [hactive]; decide)
  have hstep := stepToward_between k.stepSize x.applied x.target
  have htarget := h.1
  refine Pump.Driven.sound (x := x.stepOnce k d)
    ⟨fun ho => absurd (hactive.symm.trans ho) (by decide), fun _ => ?_, hx.preProbe, hx.preProbeRange⟩ htarget ?_
  · simp only [Pump.stepOnce]
    omega
  · simp only [Pump.stepOnce, Pump.busy, hactive]
    split
    · next h => simp [h]
    · next h => simp [h]

theorem pumpSound_lower {k : PumpConfig} {x : Pump} (h : pumpSound k x) (hs : x.state = .active) :
    pumpSound k (x.lower k) := by
  have hx := Pump.driven_of_sound h
  have hlit := hx.lit (by rw [hs]; decide)
  refine Pump.Driven.sound (x := x.lower k) ⟨nofun, fun _ => ?_, rfl, fun d hd => ?_⟩ h.1 rfl
  · simp only [Pump.lower]
    omega
  · cases hd
    exact hlit

theorem pumpSound_restore {k : PumpConfig} {x : Pump} (now : Moment) (h : pumpSound k x) :
    pumpSound k (x.restore k now) := by
  unfold Pump.restore
  split
  case isFalse => exact h
  case isTrue hs =>
    have hx := Pump.driven_of_sound h
    obtain ⟨d, hd⟩ := Option.isSome_iff_exists.1 (show x.preProbe.isSome = true by rw [hx.preProbe, hs]; rfl)
    refine Pump.Driven.ramp_sound now
      (x := { x with state := .active, applied := x.preProbe.getD x.applied, preProbe := none })
      ⟨nofun, fun _ => ?_, rfl, nofun⟩ h.1
    rw [hd]
    exact hx.preProbeRange d hd

/-! ### All pumps -/

/-- Every pump of a PBC is as `P` has it under its parameters. -/
def Pbc.Each (P : PumpConfig → Pump → Prop) (c : Commissioning) (p : Pbc) : Prop :=
  ∀ j x, p.pumps[j]? = some x → P (c.pump j) x

theorem pumpsSound_iff : PumpsSound s ↔ s.pbc.Each pumpSound s.cfg := .rfl

theorem Pbc.Each.mono {P Q : PumpConfig → Pump → Prop} {c : Commissioning} {p : Pbc} (h : p.Each P c)
    (hpq : ∀ k x, P k x → Q k x) : p.Each Q c := fun j x hx => hpq _ x (h j x hx)

theorem Pbc.Each.mapIdx {P Q : PumpConfig → Pump → Prop} {c : Commissioning} {p q : Pbc} {f : Nat → Pump → Pump}
    (h : p.Each P c) (hq : q.pumps = p.pumps.mapIdx f) (hf : ∀ j x, P (c.pump j) x → Q (c.pump j) (f j x)) :
    q.Each Q c := by
  intro j y hy
  rw [hq] at hy
  obtain ⟨x, hx, rfl⟩ := getElem?_mapIdx_some.1 hy
  exact hf j x (h j x hx)

/-- One pump changed, by what is known of it. -/
theorem Pbc.Each.modify {P : PumpConfig → Pump → Prop} {c : Commissioning} {p q : Pbc} {i : Nat} {f : Pump → Pump}
    (h : p.Each P c) (hq : q.pumps = p.pumps.modify i f)
    (hf : ∀ x, p.pumps[i]? = some x → P (c.pump i) x → P (c.pump i) (f x)) : q.Each P c := by
  intro j y hy
  rw [hq] at hy
  obtain ⟨x, hx, rfl⟩ := getElem?_modify_some hy
  split
  · next hij =>
    subst hij
    exact hf x hx (h _ x hx)
  · exact h j x hx

/-- A recomputation of the targets leaves sound pumps of driven ones (R132, R133). -/
theorem Pbc.Each.retarget {p : Pbc} (hc : s.commissioned) (h : p.Each Pump.Driven s.cfg) (now : Moment) :
    (p.retarget s.cfg now).Each pumpSound s.cfg := by
  refine h.mapIdx (q := p.retarget s.cfg now) rfl fun j x hx => ?_
  refine (hx.withTarget _).ramp_sound now ?_
  have horder := hc.floor_le_ceiling j
  dsimp only [Pbc.targetOf]
  omega

/-- The Demand List re-examined, and the targets with it (R143). -/
theorem Pbc.Each.hear {p : Pbc} (hc : s.commissioned) (h : p.Each pumpSound s.cfg) (now : Moment) (rs : List Neighbour)
    (q : Nat) : (p.hear s.cfg now rs q).Each pumpSound s.cfg := by
  unfold Pbc.hear
  refine Pbc.Each.retarget hc ?_ now
  exact fun j x hx => Pump.driven_of_sound (h j x hx)

theorem Pbc.Each.warm {p : Pbc} (hc : s.commissioned) (h : p.Each pumpSound s.cfg) (now : Moment) :
    (p.warm s.cfg now).Each pumpSound s.cfg := by
  unfold Pbc.warm
  exact Pbc.Each.retarget hc (h.mapIdx rfl fun j x hx => (Pump.driven_of_sound hx).warm (hc.pump_order j)) now

/-- Every target is that of R132's sum, and taken at once where the step interval is 0 (R133). -/
def Pbc.Current (c : Commissioning) (p : Pbc) : Prop :=
  ∀ j x, p.pumps[j]? = some x →
    x.target = targetSum c p j ∧ ((c.pump j).interval = 0 → x.state = .active → x.applied = x.target)

theorem targetsCurrent_iff : TargetsCurrent s ↔ s.pbc.Current s.cfg := .rfl

theorem Pbc.retarget_current (p : Pbc) (c : Commissioning) (now : Moment) : (p.retarget c now).Current c := by
  intro j y hy
  obtain ⟨x, hx, -⟩ := getElem?_mapIdx_some.1 hy
  obtain ⟨z, hz, hstate, -, -, htarget, hcalm, hjump, -⟩ := p.retarget_steered c now hx
  cases hz.symm.trans hy
  refine ⟨htarget, fun hk hactive => ?_⟩
  rw [htarget]
  by_cases hb : x.applied = targetSum c (p.retarget c now) j
  · rw [(hcalm fun h => h.2 hb).1, hb]
  · exact (hjump ⟨hstate ▸ hactive, hb⟩ hk).1

/-- The sum looks only at which pumps are OFF (R132). -/
theorem targetSum_congr_off {c : Commissioning} {p q : Pbc} (hd : q.demands = p.demands)
    (hl : q.pumps.length = p.pumps.length)
    (ho : ∀ l : Nat, q.pumps[l]?.map Pump.state = some .off ↔ p.pumps[l]?.map Pump.state = some .off) (j : Nat) :
    targetSum c q j = targetSum c p j := by
  unfold targetSum
  simp only [hd, hl, ho]

/-- One pump changed so that neither its target nor its being OFF changes. -/
theorem Pbc.Current.modify {c : Commissioning} {p q : Pbc} {i : Nat} {f : Pump → Pump} (h : p.Current c)
    (hd : q.demands = p.demands) (hq : q.pumps = p.pumps.modify i f)
    (hf : ∀ x, p.pumps[i]? = some x → (f x).target = x.target ∧ ((f x).state = .off ↔ x.state = .off) ∧
      ((c.pump i).interval = 0 → (f x).state = .active → (f x).applied = x.target)) : q.Current c := by
  have ho (l : Nat) : q.pumps[l]?.map Pump.state = some .off ↔ p.pumps[l]?.map Pump.state = some .off := by
    rw [hq, List.getElem?_modify]
    cases hx : p.pumps[l]? with
    | none => rfl
    | some x =>
      simp only [Option.map_some, Option.some_inj, Option.map_eq_map]
      by_cases hil : i = l
      · subst hil
        simpa using (hf x hx).2.1
      · simp [hil]
  intro j y hy
  rw [targetSum_congr_off hd (by rw [hq, List.length_modify]) ho]
  obtain ⟨x, hx, rfl⟩ := getElem?_modify_some (hq ▸ hy)
  obtain ⟨htarget, htaken⟩ := h j x hx
  split
  · next hij =>
    subst hij
    obtain ⟨ht, -, ha⟩ := hf x hx
    exact ⟨ht.trans htarget, fun hk hs => (ha hk hs).trans ht.symm⟩
  · exact ⟨htarget, htaken⟩

theorem Pump.ramp_target (k : PumpConfig) (now : Moment) (x : Pump) : (x.ramp k now).target = x.target :=
  (Pump.ramp_steered k now x.target x).2.2.2.1

theorem Pump.ramp_state (k : PumpConfig) (now : Moment) (x : Pump) : (x.ramp k now).state = x.state :=
  (Pump.ramp_steered k now x.target x).1

theorem Pump.ramp_jumps {k : PumpConfig} {now : Moment} {x : Pump} (hk : k.interval = 0) (hs : x.state = .active) :
    (x.ramp k now).applied = x.target := by
  obtain ⟨-, -, -, -, hcalm, hjump, -⟩ := Pump.ramp_steered k now x.target x
  by_cases hb : x.applied = x.target
  · exact (hcalm fun h => h.2 hb).1.trans hb
  · exact (hjump ⟨hs, hb⟩ hk).1

/-! ### The moves -/

/-- Every move keeps the drives sound (R132, R133, R139). -/
theorem Move.pumps_sound (h : Move s t) (hc : s.commissioned) (hs : PumpsSound s) : PumpsSound t := by
  have hdriven : s.pbc.Each Pump.Driven s.cfg := Pbc.Each.mono hs fun _ _ => Pump.driven_of_sound
  rw [pumpsSound_iff, h.cfg]
  cases h
  case aside h => rw [h.pbc]; exact hs
  case classChange => rw [State.deliverClass_pbc]; exact hs
  case tracker => rw [State.onTracker_pbc]; exact hs
  case wake => rw [State.setBank_pbc]; exact hs
  case visit => rw [State.visited, State.setBank_pbc]; exact hs
  case presence b w o old _ =>
    have hcfg : (s.visited b w o).cfg = s.cfg := by rw [State.visited, State.setBank_cfg]; rfl
    refine State.presenceChange_pbc (P := fun p => p.Each pumpSound s.cfg) (fun p rs q hp => ?_) ?_
    · rw [hcfg]
      exact hp.hear hc _ _ _
    · rw [State.visited, State.setBank_pbc]
      exact hs
  case tellPbc q => exact Pbc.Each.hear hc hs _ _ _
  case remap =>
    exact Pbc.Each.retarget hc (hdriven.mapIdx rfl fun j x hx => hx.remap (hc.floor_le_ceiling j) _) _
  case isolate j _ =>
    exact Pbc.Each.retarget hc (hdriven.modify rfl fun x _ _ => (Pump.Driven.toOff x).withLatch true) _
  case stepOnce j d x hx hd =>
    refine Pbc.Each.modify hs rfl fun y hy hsound => ?_
    cases hx.symm.trans hy
    exact pumpSound_stepOnce hsound hd
  case lower j hgrant =>
    refine Pbc.Each.modify hs rfl fun x hx hsound => pumpSound_lower hsound ?_
    unfold State.grantsProbe Pbc.isIn at hgrant
    rw [hx] at hgrant
    simp at hgrant
    exact hgrant.1.1
  case restore r rest _ => exact Pbc.Each.modify hs rfl fun x _ hsound => pumpSound_restore s.now hsound
  case release =>
    exact Pbc.Each.retarget hc (hdriven.mapIdx rfl fun j x hx => hx.released (hc.floor_le_ceiling j)) _
  case restart => exact Pbc.Each.warm hc hs _
  all_goals exact hs

/-- Every move keeps the targets current (R132, R133). -/
theorem Move.targets_current (h : Move s t) (hsound : PumpsSound s) (hs : TargetsCurrent s) : TargetsCurrent t := by
  rw [targetsCurrent_iff, h.cfg]
  cases h
  case aside h => rw [h.pbc]; exact hs
  case classChange => rw [State.deliverClass_pbc]; exact hs
  case tracker => rw [State.onTracker_pbc]; exact hs
  case wake => rw [State.setBank_pbc]; exact hs
  case visit => rw [State.visited, State.setBank_pbc]; exact hs
  case presence b w o old _ =>
    have hcfg : (s.visited b w o).cfg = s.cfg := by rw [State.visited, State.setBank_cfg]; rfl
    refine State.presenceChange_pbc (P := Pbc.Current s.cfg) (fun p rs q _ => ?_) ?_
    · rw [hcfg]
      exact Pbc.retarget_current _ _ _
    · rw [State.visited, State.setBank_pbc]
      exact hs
  case tellPbc q => exact Pbc.retarget_current _ _ _
  case remap => exact Pbc.retarget_current _ _ _
  case isolate => exact Pbc.retarget_current _ _ _
  case release => exact Pbc.retarget_current _ _ _
  case restart => exact Pbc.retarget_current _ _ _
  case stepOnce j d x hx hd =>
    refine Pbc.Current.modify hs (i := j) rfl rfl fun y hy => ⟨rfl, .rfl, fun hk hactive => ?_⟩
    cases hx.symm.trans hy
    have hstep : x.step.isSome = x.busy := (hsound j x hx).2.2.2.1
    have hcalm : x.applied = x.target := (hs j x hx).2 hk hactive
    simp [hd, Pump.busy, hcalm] at hstep
  case lower j hgrant =>
    refine Pbc.Current.modify hs (i := j) rfl rfl fun x hx => ⟨rfl, ?_, nofun⟩
    unfold State.grantsProbe Pbc.isIn at hgrant
    rw [hx] at hgrant
    simp at hgrant
    simp [Pump.lower, hgrant.1.1]
  case restore r rest _ =>
    refine Pbc.Current.modify hs (i := r.pump) rfl rfl fun x hx => ?_
    unfold Pump.restore
    split
    · next hprobe =>
      exact ⟨Pump.ramp_target .., by simp [Pump.ramp_state, hprobe], fun hk _ => Pump.ramp_jumps hk rfl⟩
    · exact ⟨rfl, .rfl, (hs _ x hx).2⟩
  all_goals exact hs

/-! ### The declaration -/

theorem State.declare_pumps_sound (s : State) (raw : Readings) (hc : s.commissioned) : PumpsSound (s.declare raw) := by
  rw [pumpsSound_iff, show (s.declare raw).cfg = s.cfg from rfl]
  refine Pbc.Each.retarget hc (p := { s.pbc with pumps := _, bypass := _, switches := _, demands := [] }) ?_ s.now
  intro j x hx
  obtain ⟨k, hk, rfl⟩ := Option.map_eq_some_iff.1 (List.getElem?_map.symm.trans hx)
  have hkj : s.cfg.pump j = k := by
    rw [Commissioning.pump, List.getD_eq_getElem?_getD, hk, Option.getD_some]
  rw [hkj]
  exact .start (hkj ▸ hc.floor_le_ceiling j)

end

/-- Settles O54: a step timer that runs means an ACTIVE pump away from its target, so a step moves it between two drives in range;
every other operation recomputes the targets, or moves one pump between its drive and its pre-probe drive. -/
theorem everyStepKeepsThePumpsSound : Obligations.EveryStepKeepsThePumpsSound := by
  intro s t hl hs h
  have hempty {u : State} (hu : u.untouched) : u.pbc.pumps = [] := hu.pbc_fields.1
  refine ⟨?sound, fun hcur => ?current⟩
  case sound =>
    refine step_keeps (P := PumpsSound) (fun u hu _ j x hx => ?_) (fun u raw _ hc => u.declare_pumps_sound raw hc)
      (fun u v _ hc hm hu => hm.pumps_sound hc hu) hl hs h
    simp [hempty hu] at hx
  case current =>
    refine (step_keeps (P := fun u => PumpsSound u ∧ TargetsCurrent u) (fun u hu _ => ⟨fun j x hx => ?_, fun j x hx => ?_⟩)
      (fun u raw _ hc => ⟨u.declare_pumps_sound raw hc, Pbc.retarget_current _ _ _⟩)
      (fun u v _ hc hm hu => ⟨hm.pumps_sound hc hu.1, hm.targets_current hu.1 hu.2⟩) hl ⟨hs, hcur⟩ h).2
    · simp [hempty hu] at hx
    · simp [hempty hu] at hx

end Sys2Proof.Machine
end

section
/-! One probe, distinct demands, a bounded queue (O57): no operation puts a second pump in PROBE, a demand twice in the Demand List, or
a record beyond the room of the queue. -/

namespace Sys2Proof.Machine

section
variable {s t : State}

/-! ### Counting pumps in PROBE (R139) -/

theorem countP_mapIdx_le {α : Type} {p : α → Bool} {f : Nat → α → α} {l : List α}
    (h : ∀ j x, p (f j x) = true → p x = true) : (l.mapIdx f).countP p ≤ l.countP p := by
  induction l generalizing f with
  | nil => simp
  | cons x xs ih =>
    rw [List.mapIdx_cons, List.countP_cons, List.countP_cons]
    have htail := ih fun j => h (j + 1)
    by_cases hx : p (f 0 x) = true
    · simpa [hx, h 0 x hx] using htail
    · simp only [hx]
      exact Nat.le_add_right_of_le htail

theorem countP_modify_le {α : Type} {p : α → Bool} {f : α → α} {l : List α} (i : Nat)
    (h : ∀ x, p (f x) = true → p x = true) : (l.modify i f).countP p ≤ l.countP p := by
  have heq : l.modify i f = l.mapIdx fun j x => if i = j then f x else x := by
    apply List.ext_getElem?
    intro j
    rw [List.getElem?_modify, List.getElem?_mapIdx]
    rfl
  rw [heq]
  refine countP_mapIdx_le fun j x hx => ?_
  split at hx
  · exact h x hx
  · exact hx

theorem countP_modify_le_one {α : Type} {p : α → Bool} {f : α → α} {l : List α} (i : Nat)
    (h : ∀ x ∈ l, p x = false) : (l.modify i f).countP p ≤ 1 := by
  induction l generalizing i with
  | nil => simp
  | cons x xs ih =>
    have hxs : xs.countP p = 0 := List.countP_eq_zero.2 fun y hy => by simp [h y (List.mem_cons_of_mem _ hy)]
    cases i with
    | zero =>
      rw [List.modify_zero_cons, List.countP_cons, hxs]
      split <;> omega
    | succ i =>
      rw [List.modify_succ_cons, List.countP_cons, h x List.mem_cons_self]
      simpa using ih i fun y hy => h y (List.mem_cons_of_mem _ hy)

/-- At most one pump of a PBC is in PROBE. -/
def Pbc.AtMostOne (p : Pbc) : Prop := p.pumps.countP (fun x => x.state == .probe) ≤ 1

theorem oneProbe_iff : OneProbe s ↔ s.pbc.AtMostOne := .rfl

theorem Pbc.AtMostOne.mapIdx {p q : Pbc} {f : Nat → Pump → Pump} (h : p.AtMostOne) (hq : q.pumps = p.pumps.mapIdx f)
    (hf : ∀ j x, (f j x).state = .probe → x.state = .probe) : q.AtMostOne := by
  unfold Pbc.AtMostOne
  rw [hq]
  exact (countP_mapIdx_le fun j x hx => by simpa using hf j x (by simpa using hx)).trans h

theorem Pbc.AtMostOne.modify {p q : Pbc} {i : Nat} {f : Pump → Pump} (h : p.AtMostOne)
    (hq : q.pumps = p.pumps.modify i f) (hf : ∀ x, (f x).state = .probe → x.state = .probe) : q.AtMostOne := by
  unfold Pbc.AtMostOne
  rw [hq]
  exact (countP_modify_le i fun x hx => by simpa using hf x (by simpa using hx)).trans h

theorem Pbc.AtMostOne.retarget {p : Pbc} (h : p.AtMostOne) (c : Commissioning) (now : Moment) :
    (p.retarget c now).AtMostOne :=
  h.mapIdx (q := p.retarget c now) rfl fun j x hx => by rwa [Pump.ramp_state] at hx

theorem Pbc.AtMostOne.hear {p : Pbc} (h : p.AtMostOne) (c : Commissioning) (now : Moment) (rs : List Neighbour) (q : Nat) :
    (p.hear c now rs q).AtMostOne := by
  unfold Pbc.hear
  refine Pbc.AtMostOne.retarget ?_ c now
  exact h

theorem Pump.remap_probe {k : PumpConfig} {wholly : Bool} {x : Pump} (h : (x.remap k wholly).state = .probe) :
    x.state = .probe := by
  unfold Pump.remap Pump.toRemap at h
  split at h
  · exact h
  · split at h
    · split at h <;> cases h
    · split at h <;> cases h
    · cases h
    · cases h
    · exact h

theorem Pump.released_probe {k : PumpConfig} {x : Pump} (h : (x.released k).state = .probe) : x.state = .probe := by
  unfold Pump.released at h
  split at h
  · cases h
  · cases h
  · exact h

theorem Pump.warm_probe {k : PumpConfig} {x : Pump} (h : (x.warm k).state = .probe) : x.state = .probe := by
  unfold Pump.warm at h
  split at h
  · exact h
  · cases h
  · exact h

theorem Pump.restore_probe {k : PumpConfig} {now : Moment} {x : Pump} (h : (x.restore k now).state = .probe) :
    x.state = .probe := by
  unfold Pump.restore at h
  split at h
  · next hp => exact hp
  · exact h

/-- Every move keeps at most one pump in PROBE: a second grant finds the first (R139). -/
theorem Move.one_probe (h : Move s t) (hs : OneProbe s) : OneProbe t := by
  rw [oneProbe_iff] at hs ⊢
  cases h
  case aside h => rw [h.pbc]; exact hs
  case classChange => rw [State.deliverClass_pbc]; exact hs
  case tracker => rw [State.onTracker_pbc]; exact hs
  case wake => rw [State.setBank_pbc]; exact hs
  case visit => rw [State.visited, State.setBank_pbc]; exact hs
  case presence b w o old _ =>
    refine State.presenceChange_pbc (P := Pbc.AtMostOne) (fun p rs q hp => hp.hear _ _ _ _) ?_
    rw [State.visited, State.setBank_pbc]
    exact hs
  case tellPbc q => exact hs.hear ..
  case remap =>
    exact Pbc.AtMostOne.retarget (hs.mapIdx rfl fun j x hx => Pump.remap_probe hx) ..
  case isolate =>
    refine Pbc.AtMostOne.retarget (hs.modify rfl fun x hx => ?_) ..
    cases hx
  case stepOnce => exact hs.modify rfl fun x hx => hx
  case lower j hgrant =>
    refine countP_modify_le_one j fun x hx => ?_
    have hnone : s.pbc.probed = none := by
      unfold State.grantsProbe at hgrant
      simp at hgrant
      exact hgrant.2
    exact List.findIdx?_eq_none_iff.1 hnone x hx
  case restore => exact hs.modify rfl fun x hx => Pump.restore_probe hx
  case release => exact Pbc.AtMostOne.retarget (hs.mapIdx rfl fun j x hx => Pump.released_probe hx) ..
  case restart =>
    show (s.pbc.warm s.cfg s.now).AtMostOne
    unfold Pbc.warm
    exact Pbc.AtMostOne.retarget (hs.mapIdx rfl fun j x hx => Pump.warm_probe hx) ..
  all_goals exact hs

/-! ### The Demand List (R142, R143) -/

/-- Demands of own amplifiers, no two alike. -/
def Pbc.DemandsOwn (c : Commissioning) (p : Pbc) : Prop := p.demands.Nodup ∧ ∀ d ∈ p.demands, d.amp < c.ampCount

theorem demandsDistinct_iff : DemandsDistinct s ↔ s.pbc.DemandsOwn s.cfg := .rfl

/-- An announcement leaves the other demands, and of `d` at most one. -/
theorem demandUpdate_cases (rs : List Neighbour) (q : Nat) (d : Demand) (ds : List Demand) :
    demandUpdate rs q d ds = ds ∨ demandUpdate rs q d ds = ds.filter (· != d) ∨
      d ∉ ds ∧ demandUpdate rs q d ds = ds ++ [d] := by
  unfold demandUpdate
  split
  · split
    · split
      · split
        · exact .inl rfl
        · next hd => exact .inr (.inr ⟨hd, rfl⟩)
      · exact .inr (.inl rfl)
    · exact .inr (.inl rfl)
  · exact .inl rfl
  · exact .inr (.inl rfl)
  · exact .inl rfl

theorem demandUpdate_distinct {rs : List Neighbour} {q : Nat} {d : Demand} {ds : List Demand} {n : Nat} (hd : d.amp < n)
    (h : ds.Nodup ∧ ∀ x ∈ ds, x.amp < n) :
    (demandUpdate rs q d ds).Nodup ∧ ∀ x ∈ demandUpdate rs q d ds, x.amp < n := by
  obtain ⟨hnodup, hown⟩ := h
  rcases demandUpdate_cases rs q d ds with heq | heq | ⟨hnew, heq⟩ <;> rw [heq]
  · exact ⟨hnodup, hown⟩
  · exact ⟨hnodup.filter _, fun x hx => hown x (List.mem_of_mem_filter hx)⟩
  · refine ⟨hnodup.append (by simp) (by simpa using hnew), fun x hx => ?_⟩
    rcases List.mem_append.1 hx with hx | hx
    · exact hown x hx
    · rw [List.mem_singleton.1 hx]
      exact hd

theorem amp_lt_of_mem_demandsFrom {c : Commissioning} {q : Nat} {d : Demand} (h : d ∈ demandsFrom c q) :
    d.amp < c.ampCount := by
  obtain ⟨a, ha, hd⟩ := List.mem_flatMap.1 (List.mem_of_mem_filter h)
  rw [List.mem_range] at ha
  simp only [List.mem_cons, List.not_mem_nil, or_false] at hd
  rcases hd with rfl | rfl <;> exact ha

theorem Pbc.DemandsOwn.hear {c : Commissioning} {p : Pbc} (h : p.DemandsOwn c) (now : Moment) (rs : List Neighbour)
    (q : Nat) : (p.hear c now rs q).DemandsOwn c := by
  have hfold (l ds : List Demand) (hl : ∀ d ∈ l, d.amp < c.ampCount)
      (hds : ds.Nodup ∧ ∀ x ∈ ds, x.amp < c.ampCount) :
      (l.foldl (fun ds d => demandUpdate rs q d ds) ds).Nodup ∧
        ∀ x ∈ l.foldl (fun ds d => demandUpdate rs q d ds) ds, x.amp < c.ampCount := by
    induction l generalizing ds with
    | nil => exact hds
    | cons d rest ih =>
      obtain ⟨hd, hrest⟩ := List.forall_mem_cons.1 hl
      exact ih _ hrest (demandUpdate_distinct hd hds)
  exact hfold _ _ (fun d hd => amp_lt_of_mem_demandsFrom hd) h

theorem Move.demands_distinct (h : Move s t) (hs : DemandsDistinct s) : DemandsDistinct t := by
  rw [demandsDistinct_iff, h.cfg]
  rw [demandsDistinct_iff] at hs
  cases h
  case aside h => rw [h.pbc]; exact hs
  case classChange => rw [State.deliverClass_pbc]; exact hs
  case tracker => rw [State.onTracker_pbc]; exact hs
  case wake => rw [State.setBank_pbc]; exact hs
  case visit => rw [State.visited, State.setBank_pbc]; exact hs
  case presence b w o old _ =>
    have hcfg : (s.visited b w o).cfg = s.cfg := by rw [State.visited, State.setBank_cfg]; rfl
    refine State.presenceChange_pbc (P := Pbc.DemandsOwn s.cfg) (fun p rs q hp => ?_) ?_
    · rw [hcfg]
      exact hp.hear _ _ _
    · rw [State.visited, State.setBank_pbc]
      exact hs
  case tellPbc q => exact hs.hear ..
  case restart => exact ⟨List.nodup_nil, nofun⟩
  all_goals exact hs

/-! ### The Record Queue (R180) -/

theorem Move.queue_bounded (h : Move s t) (hs : QueueBounded s) : QueueBounded t := by
  unfold QueueBounded at hs ⊢
  cases h
  case aside h => exact h.queue hs
  case presence b w o old _ =>
    unfold State.presenceChange
    refine (State.offerAll_aside _ _ _).queue ?_
    rw [State.followCaptures_tpt, State.setBank_tpt, State.visited, State.setBank_tpt]
    exact hs
  case classChange => rw [State.deliverClass_tpt]; exact hs
  case tracker => rw [State.onTracker_tpt]; exact hs
  case wake => rw [State.setBank_tpt]; exact hs
  case visit => rw [State.visited, State.setBank_tpt]; exact hs
  all_goals exact hs

end

/-- Settles O57: each move keeps each of the three laws. -/
theorem everyStepKeepsProbeDemandsAndQueue : Obligations.EveryStepKeepsProbeDemandsAndQueue := by
  intro s t hl hp hd hq h
  refine step_keeps (P := fun u => OneProbe u ∧ DemandsDistinct u ∧ QueueBounded u) (fun u hu _ => ?untouched)
    (fun u raw hu _ => ?declared)
    (fun u v _ _ hm ⟨hp, hd, hq⟩ => ⟨hm.one_probe hp, hm.demands_distinct hd, hm.queue_bounded hq⟩) hl ⟨hp, hd, hq⟩ h
  case untouched =>
    obtain ⟨hpumps, -, hdemands, -⟩ := hu.pbc_fields
    obtain ⟨hqueue, -⟩ := hu.tpt_fields
    simp [OneProbe, DemandsDistinct, QueueBounded, hpumps, hdemands, hqueue]
  case declared =>
    obtain ⟨hqueue, -⟩ := hu.tpt_fields
    refine ⟨?_, ⟨List.nodup_nil, nofun⟩, ?_⟩
    · show (u.pbc.start u.cfg u.now).AtMostOne
      unfold Pbc.start
      refine Pbc.AtMostOne.retarget ?_ ..
      have hzero : (u.cfg.pumps.map Pump.start).countP (fun x => x.state == .probe) = 0 :=
        List.countP_eq_zero.2 fun x hx => by
          obtain ⟨k, -, rfl⟩ := List.mem_map.1 hx
          simp [Pump.start]
      exact hzero.trans_le (by decide)
    · rw [QueueBounded, State.declare_tpt, hqueue]
      exact Nat.zero_le _

end Sys2Proof.Machine
end

section
/-! The Suspect Table's entries (O53) and its latches (O60): what each operation on an entry keeps of its score, its kind and its
latch. -/

namespace Sys2Proof.Machine

section
variable {s t : State}

/-! ### Lists whose entries are changed one by one -/

theorem forall_mem_mapIdx {α β : Type} {P : α → Prop} {Q : β → Prop} {f : Nat → α → β} {l : List α} (h : ∀ x ∈ l, P x)
    (hf : ∀ j x, P x → Q (f j x)) : ∀ y ∈ l.mapIdx f, Q y := by
  intro y hy
  obtain ⟨j, hj, rfl⟩ := List.mem_mapIdx.1 hy
  exact hf j _ (h _ (List.getElem_mem hj))

theorem forall_mem_modify {α : Type} {P : α → Prop} {f : α → α} {l : List α} {i : Nat} (h : ∀ x ∈ l, P x)
    (hf : ∀ x ∈ l, P x → P (f x)) : ∀ y ∈ l.modify i f, P y := by
  intro y hy
  obtain ⟨j, hj⟩ := List.getElem?_of_mem hy
  obtain ⟨x, hx, rfl⟩ := getElem?_modify_some hj
  have hmem := List.mem_of_getElem? hx
  split
  · exact hf x hmem (h x hmem)
  · exact h x hmem

theorem forall_mem_map {α β : Type} {P : α → Prop} {Q : β → Prop} {f : α → β} {l : List α} (h : ∀ x ∈ l, P x)
    (hf : ∀ x, P x → Q (f x)) : ∀ y ∈ l.map f, Q y := by
  intro y hy
  obtain ⟨x, hx, rfl⟩ := List.mem_map.1 hy
  exact hf x (h x hx)

/-- What every change of an entry keeps, the whole list keeps. -/
theorem map_mapIdx_kept {α β : Type} {g : α → β} {f : Nat → α → α} (hf : ∀ j x, g (f j x) = g x) (l : List α) :
    (l.mapIdx f).map g = l.map g := by
  apply List.ext_getElem?
  intro j
  rw [List.getElem?_map, List.getElem?_map, List.getElem?_mapIdx]
  cases l[j]? with
  | none => rfl
  | some x => exact congrArg some (hf j x)

theorem map_modify_kept {α β : Type} {g : α → β} {f : α → α} {l : List α} {i : Nat}
    (hf : ∀ x, l[i]? = some x → g (f x) = g x) : (l.modify i f).map g = l.map g := by
  apply List.ext_getElem?
  intro j
  rw [List.getElem?_map, List.getElem?_map, List.getElem?_modify]
  cases hx : l[j]? with
  | none => rfl
  | some x =>
    by_cases hij : i = j
    · subst hij
      simpa using hf x hx
    · simp [hij]

/-! ### Scores (R106, R107, R123) -/

/-- What R167's check 11 says of the levels. -/
structure Commissioning.Levels (c : Commissioning) : Prop where
  release_lt_max : c.lr < Config.scoreMax
  release_lt_declare : c.lr < c.ld
  suspect_le_max : c.ls ≤ Config.scoreMax

theorem State.commissioned.levels (hc : s.commissioned) : s.cfg.Levels := by
  obtain ⟨-, -, -, ⟨-, hls⟩, -, ⟨-, hlr⟩, -, hld, -⟩ :=
    scoringCheck_iff.1 (checkPasses_of_firstFailure_eq_none hc (by decide) (by decide))
  exact ⟨by unfold Config.scoreMax; omega, hld, by unfold Config.scoreMax; omega⟩

theorem scoreOf_le (score weight : Nat) (ev : Evidence) (h : score ≤ Config.scoreMax) :
    scoreOf score weight ev ≤ Config.scoreMax := by
  cases ev
  · exact Nat.min_le_left _ _
  · exact (Nat.sub_le _ _).trans h
  · exact h
  · exact h

section
variable {c : Commissioning}

/-- The level rule declares only above the release level (R107). -/
theorem scoreSound_rescored (hl : c.Levels) {before : Suspicion} {old new : Nat} (h : scoreSound c.lr old before)
    (hnew : new ≤ Config.scoreMax) : scoreSound c.lr new (rescored c before old new) := by
  refine ⟨hnew, fun hf => ?_⟩
  unfold rescored at hf
  split at hf
  · next heq => exact heq ▸ h.2 hf
  · unfold levelRule at hf
    split at hf
    · split at hf
      · assumption
      · split at hf <;> cases hf
    · split at hf
      · next hd => exact hl.release_lt_declare.trans_le hd
      · split at hf <;> cases hf

theorem scoreSound_clear (lr : Nat) : scoreSound lr 0 .clear := ⟨Nat.zero_le _, nofun⟩

theorem scoreSound_max (hl : c.Levels) (st : Suspicion) : scoreSound c.lr Config.scoreMax st :=
  ⟨le_refl _, fun _ => hl.release_lt_max⟩

def SpanEntry.Sound (lr : Nat) (e : SpanEntry) : Prop := scoreSound lr e.score e.state
def AmpEntry.Sound (lr : Nat) (e : AmpEntry) : Prop := scoreSound lr e.score e.state
def PumpEntry.Sound (lr : Nat) (e : PumpEntry) : Prop := scoreSound lr e.score e.state

/-- The scores of the table's three parts. -/
structure Flt.Scored (lr : Nat) (f : Flt) : Prop where
  spans : ∀ e ∈ f.spans, e.Sound lr
  amps : ∀ e ∈ f.amps, e.Sound lr
  pumps : ∀ e ∈ f.pumps, e.Sound lr

theorem SpanEntry.scored_sound (hl : c.Levels) {clock : Nat} {r : SpanResult} {e : SpanEntry} (h : e.Sound c.lr) :
    (e.scored c clock r).Sound c.lr := by
  unfold SpanEntry.scored
  split
  · exact h
  · exact scoreSound_rescored hl h (scoreOf_le _ _ _ h.1)

theorem AmpEntry.scored_sound (hl : c.Levels) {clock : Nat} {r : AmpResult} {e : AmpEntry} (h : e.Sound c.lr) :
    (e.scored c clock r).Sound c.lr := by
  unfold AmpEntry.scored
  split
  · exact h
  · exact scoreSound_rescored hl h (scoreOf_le _ _ _ h.1)

theorem PumpEntry.probeResult_sound (hl : c.Levels) {clock : Nat} {good : Bool} {e : PumpEntry} (h : e.Sound c.lr) :
    (e.probeResult c clock good).Sound c.lr := by
  unfold PumpEntry.probeResult
  split
  · exact h
  · split
    · exact scoreSound_rescored hl h ((Nat.sub_le _ _).trans h.1)
    · exact scoreSound_rescored hl h (Nat.min_le_left _ _)

theorem PumpEntry.attribute_sound (hl : c.Levels) {clock : Nat} {wholly : Bool} {e : PumpEntry} (h : e.Sound c.lr) :
    (e.attribute c clock wholly).Sound c.lr := by
  unfold PumpEntry.attribute
  split
  · exact h
  · split
    · exact scoreSound_rescored hl h (Nat.min_le_left _ _)
    · exact h

theorem AmpEntry.attribute_score (b : Bool) (e : AmpEntry) :
    (e.attribute b).score = e.score ∧ (e.attribute b).state = e.state ∧ (e.attribute b).latch = e.latch := by
  unfold AmpEntry.attribute
  split <;> exact ⟨rfl, rfl, rfl⟩

theorem AmpEntry.grant_sound (hl : c.Levels) {clock : Nat} {kind : AmpKind} {e : AmpEntry} (h : e.Sound c.lr) :
    (e.grant clock kind).Sound c.lr := by
  unfold AmpEntry.grant
  split
  · exact h
  · exact scoreSound_max hl _

theorem PumpEntry.grant_sound (hl : c.Levels) {clock : Nat} {e : PumpEntry} (h : e.Sound c.lr) :
    (e.grant clock).Sound c.lr := by
  unfold PumpEntry.grant
  split
  · exact h
  · exact scoreSound_max hl _

theorem AmpEntry.cleared_sound {lr clock : Nat} {e : AmpEntry} (h : e.Sound lr) :
    (e.cleared clock).Sound lr := by
  unfold AmpEntry.cleared
  split
  · exact h
  · exact scoreSound_clear _

theorem PumpEntry.cleared_sound {lr clock : Nat} {e : PumpEntry} (h : e.Sound lr) :
    (e.cleared clock).Sound lr := by
  unfold PumpEntry.cleared
  split
  · exact h
  · exact scoreSound_clear _

theorem AmpEntry.restored_sound (hl : c.Levels) {e : AmpEntry} (h : e.Sound c.lr) : e.restored.Sound c.lr := by
  unfold AmpEntry.restored
  split
  · exact scoreSound_max hl _
  · exact h

theorem PumpEntry.restored_sound (hl : c.Levels) {e : PumpEntry} (h : e.Sound c.lr) : e.restored.Sound c.lr := by
  unfold PumpEntry.restored
  split
  · exact scoreSound_max hl _
  · exact h

theorem Flt.Scored.takeClasses (hl : c.Levels) {f : Flt} (h : f.Scored c.lr) (clock : Nat) (l : Lmu) :
    (f.takeClasses clock l).Scored c.lr where
  spans := forall_mem_mapIdx h.spans fun a e he => by
    split
    · exact scoreSound_max hl _
    · exact he
  amps := forall_mem_mapIdx h.amps fun a e he => he
  pumps := h.pumps

theorem Flt.Scored.classChange (hl : c.Levels) {f : Flt} (h : f.Scored c.lr) (clock : Nat) (ev : ClassChange) :
    (f.classChange c clock ev).Scored c.lr where
  spans := forall_mem_modify h.spans fun e _ he => by
    split
    · exact scoreSound_max hl _
    · split
      · exact ⟨hl.suspect_le_max, nofun⟩
      · exact he
  amps := forall_mem_modify h.amps fun e _ he => he
  pumps := h.pumps

theorem Flt.Scored.warm (hl : c.Levels) {f : Flt} (h : f.Scored c.lr) (clock : Nat) (now : Moment) (l : Lmu) :
    (f.warm clock now l).Scored c.lr := by
  unfold Flt.warm
  exact Flt.Scored.takeClasses hl
    { spans := by
        intro e he
        obtain ⟨x, -, rfl⟩ := List.mem_map.1 he
        exact scoreSound_clear c.lr
      amps := forall_mem_map h.amps fun e he => AmpEntry.restored_sound hl (AmpEntry.cleared_sound he)
      pumps := forall_mem_map h.pumps fun e he => PumpEntry.restored_sound hl (PumpEntry.cleared_sound he) } clock l

end

theorem State.judged_scored (hl : s.cfg.Levels) (h : s.flt.Scored s.cfg.lr) : s.judged.Scored s.cfg.lr where
  spans := forall_mem_mapIdx (forall_mem_mapIdx h.spans fun a e he => SpanEntry.scored_sound hl he) fun a e he => by
    rw [SpanEntry.settle_eq]
    exact he
  amps := forall_mem_mapIdx (forall_mem_mapIdx h.amps fun a e he => AmpEntry.scored_sound hl he) fun a e he => by
    rw [AmpEntry.Sound, (AmpEntry.attribute_score _ e).1, (AmpEntry.attribute_score _ e).2.1]
    exact he
  pumps := forall_mem_mapIdx h.pumps fun j e he => PumpEntry.attribute_sound hl he

/-- The entries as they were before the results that wait with the requests to restore a drive (log entry 25). -/
def Pbc.NotesScored (lr : Nat) (p : Pbc) : Prop :=
  ∀ r ∈ p.restores, ∀ g, r.result = some g → scoreSound lr g.before.score g.before.state

theorem scoresSound_iff : ScoresSound s ↔ s.flt.Scored s.cfg.lr ∧ s.pbc.NotesScored s.cfg.lr :=
  ⟨fun ⟨h1, h2, h3, h4⟩ => ⟨⟨h1, h2, h3⟩, h4⟩, fun ⟨⟨h1, h2, h3⟩, h4⟩ => ⟨h1, h2, h3, h4⟩⟩

theorem Move.table_scored (h : Move s t) (hl : s.cfg.Levels) (hs : s.flt.Scored s.cfg.lr)
    (hn : s.pbc.NotesScored s.cfg.lr) : t.flt.Scored s.cfg.lr := by
  cases h
  case aside h => rw [h.flt]; exact hs
  case classChange ev => rw [State.deliverClass_flt]; exact hs.classChange hl _ _
  case tracker => rw [State.onTracker_flt]; exact hs
  case wake => rw [State.setBank_flt]; exact hs
  case visit => rw [State.visited, State.setBank_flt]; exact hs
  case presence => rw [State.presenceChange_flt, State.visited, State.setBank_flt]; exact hs
  case tellFlt => exact ⟨hs.spans, hs.amps, hs.pumps⟩
  case settle => exact ⟨hs.spans, hs.amps, hs.pumps⟩
  case probeResult =>
    exact ⟨hs.spans, hs.amps, forall_mem_modify hs.pumps fun e _ he => PumpEntry.probeResult_sound hl he⟩
  case withdraw j g hg =>
    obtain ⟨r, hr, hrg⟩ := hg
    exact ⟨hs.spans, hs.amps, forall_mem_modify hs.pumps fun e _ _ => hn r hr g hrg⟩
  case epoch => exact ⟨hs.spans, hs.amps, hs.pumps⟩
  case judged => exact State.judged_scored hl hs
  case bypass => exact ⟨hs.spans, forall_mem_modify hs.amps fun e _ he => AmpEntry.grant_sound hl he, hs.pumps⟩
  case isolate => exact ⟨hs.spans, hs.amps, forall_mem_modify hs.pumps fun e _ he => PumpEntry.grant_sound hl he⟩
  case release =>
    refine ⟨hs.spans, forall_mem_mapIdx hs.amps fun a e he => ?_, forall_mem_mapIdx hs.pumps fun j e he => ?_⟩
    · split
      · exact scoreSound_clear _
      · exact he
    · split
      · exact scoreSound_clear _
      · exact he
  case rereference =>
    refine ⟨forall_mem_mapIdx hs.spans fun a e he => ?_, forall_mem_map hs.amps fun e he => AmpEntry.cleared_sound he,
      forall_mem_map hs.pumps fun e he => PumpEntry.cleared_sound he⟩
    split
    · exact he
    · exact scoreSound_clear _
  case restart =>
    unfold State.warmRestart
    dsimp only [State.report_flt]
    split
    · exact Flt.Scored.warm hl (f := s.flt.startSettle _ _ _) ⟨hs.spans, hs.amps, hs.pumps⟩ _ _ _
    · exact hs.warm hl _ _ _
  all_goals exact hs

/-- The requests to restore a drive are not changed by what leaves them alone. -/
theorem State.presenceChange_restores (s : State) (b : Bank) (q : Nat) (old new : Presence) :
    (s.presenceChange b q old new).pbc.restores = s.pbc.restores :=
  State.presenceChange_pbc (P := fun p => p.restores = s.pbc.restores) (fun _ _ _ h => h) rfl

theorem Move.notes_scored (h : Move s t) (hs : s.flt.Scored s.cfg.lr) (hn : s.pbc.NotesScored s.cfg.lr) :
    t.pbc.NotesScored s.cfg.lr := by
  cases h
  case aside h => rw [h.pbc]; exact hn
  case classChange => rw [State.deliverClass_pbc]; exact hn
  case tracker => rw [State.onTracker_pbc]; exact hn
  case wake => rw [State.setBank_pbc]; exact hn
  case visit => rw [State.visited, State.setBank_pbc]; exact hn
  case presence => rw [Pbc.NotesScored, State.presenceChange_restores, State.visited, State.setBank_pbc]; exact hn
  case askRestore r hr =>
    intro r' hr' g hg
    rcases List.mem_append.1 hr' with hr' | hr'
    · exact hn r' hr' g hg
    · rw [List.mem_singleton.1 hr'] at hg
      exact hs.pumps _ (hr g hg)
  case restore r rest hrest => exact fun r' hr' => hn r' (hrest ▸ List.mem_cons_of_mem _ hr')
  all_goals exact hn

/-! ### Kinds of SPAN entries (R103, R111) -/

/-- A kind exactly while FAULTY. -/
def SpanEntry.Kinded (e : SpanEntry) : Prop := e.kind ≠ .none ↔ e.state = .faulty

theorem spanKindsSound_iff : SpanKindsSound s ↔ ∀ e ∈ s.flt.spans, e.Kinded := .rfl

theorem SpanEntry.declareDark_kinded (clock : Nat) (e : SpanEntry) : (e.declareDark clock).Kinded :=
  ⟨fun _ => rfl, fun _ => nofun⟩

theorem SpanEntry.cleared_kinded (clock : Nat) (e : SpanEntry) : (e.cleared clock).Kinded :=
  ⟨fun h => absurd rfl h, nofun⟩

/-- Evidence without a basis is held (R94, R100). -/
theorem State.spanResult_held_of_no_basis {a : Nat} (h : (s.spanResult a).basis = .none) :
    (s.spanResult a).evidence = .held := by
  have hbasis : s.basisOf a = .none := h
  exact State.spanResult_held (by simp [State.spanHolds, hbasis])

/-- An entry just scored has a kind only while FAULTY, and while FAULTY a kind already or a basis to settle one by. -/
theorem SpanEntry.scored_kinded {c : Commissioning} {clock : Nat} {r : SpanResult} {e : SpanEntry} (he : e.Kinded)
    (hr : r.basis = .none → r.evidence = .held) :
    ((e.scored c clock r).kind ≠ .none → (e.scored c clock r).state = .faulty) ∧
      ((e.scored c clock r).state = .faulty → (e.scored c clock r).kind ≠ .none ∨ (e.scored c clock r).basis ≠ .none) := by
  unfold SpanEntry.scored
  split
  · exact ⟨he.1, fun h => .inl (he.2 h)⟩
  · refine ⟨fun h => ?_, fun h => ?_⟩
    · dsimp only at h
      split at h
      · next hf => exact hf
      · exact absurd rfl h
    · by_cases hb : r.basis = .none
      · refine .inl ?_
        dsimp only at h ⊢
        rw [if_pos h]
        rw [hr hb] at h
        simp only [scoreOf, rescored, if_true] at h
        exact he.2 h
      · exact .inr hb

theorem partnerKind_ne_none (p : Option SpanVerdict) : partnerKind p ≠ .none := by
  cases p with
  | none => nofun
  | some v => cases v <;> nofun

/-- Stage 2 gives every FAULTY entry a kind (R111). -/
theorem SpanEntry.settle_kinded {n : Nat} {df : Bool} {p : Option SpanVerdict} {e : SpanEntry}
    (hk : e.kind ≠ .none → e.state = .faulty) (hs : e.state = .faulty → e.kind ≠ .none ∨ e.basis ≠ .none) :
    (e.settle n df p).Kinded := by
  unfold SpanEntry.Kinded SpanEntry.settle
  split
  · next h =>
    obtain ⟨hf, hdark⟩ := h
    split
    · next hb => exact ⟨hk, fun _ => (hs hf).resolve_right (fun h => h hb)⟩
    · exact ⟨fun _ => hf, fun _ => nofun⟩
    · split
      · exact ⟨fun _ => hf, fun _ => nofun⟩
      · exact ⟨fun _ => hf, fun _ => partnerKind_ne_none p⟩
  · next h =>
    refine ⟨hk, fun hf hnone => h ⟨hf, ?_⟩⟩
    rw [hnone]
    nofun

theorem Flt.takeClasses_kinded {clock : Nat} {l : Lmu} {f : Flt} (h : ∀ e ∈ f.spans, e.Kinded) :
    ∀ e ∈ (f.takeClasses clock l).spans, e.Kinded :=
  forall_mem_mapIdx h fun a e he => by
    split
    · exact e.declareDark_kinded clock
    · exact he

theorem Move.spans_kinded (h : Move s t) (hs : SpanKindsSound s) : SpanKindsSound t := by
  rw [spanKindsSound_iff] at hs ⊢
  cases h
  case aside h => rw [h.flt]; exact hs
  case classChange ev =>
    rw [State.deliverClass_flt]
    refine forall_mem_modify hs fun e _ he => ?_
    split
    · exact e.declareDark_kinded _
    · split
      · exact ⟨fun h => absurd rfl h, nofun⟩
      · exact he
  case tracker => rw [State.onTracker_flt]; exact hs
  case wake => rw [State.setBank_flt]; exact hs
  case visit => rw [State.visited, State.setBank_flt]; exact hs
  case presence => rw [State.presenceChange_flt, State.visited, State.setBank_flt]; exact hs
  case judged =>
    refine forall_mem_mapIdx (P := fun e => (e.kind ≠ .none → e.state = .faulty) ∧
      (e.state = .faulty → e.kind ≠ .none ∨ e.basis ≠ .none)) ?_ fun a e he => SpanEntry.settle_kinded he.1 he.2
    exact forall_mem_mapIdx hs fun a e he => SpanEntry.scored_kinded he State.spanResult_held_of_no_basis
  case rereference =>
    refine forall_mem_mapIdx hs fun a e he => ?_
    split
    · exact he
    · exact e.cleared_kinded _
  case restart =>
    have hwarm (f : Flt) : ∀ e ∈ (f.warm s.cfl.clock s.now s.lmu).spans, e.Kinded :=
      Flt.takeClasses_kinded (forall_mem_map (fun e _ => e.cleared_kinded s.cfl.clock) fun e _ =>
        ⟨fun h => absurd rfl h, nofun⟩)
    unfold State.warmRestart
    dsimp only [State.report_flt]
    split <;> exact hwarm _
  all_goals exact hs

/-! ### Latches (R122) -/

@[simp] theorem AmpEntry.scored_latch (c : Commissioning) (clock : Nat) (r : AmpResult) (e : AmpEntry) :
    (e.scored c clock r).latch = e.latch := by
  unfold AmpEntry.scored
  split <;> rfl

@[simp] theorem AmpEntry.cleared_latch (clock : Nat) (e : AmpEntry) : (e.cleared clock).latch = e.latch := by
  unfold AmpEntry.cleared
  split <;> rfl

@[simp] theorem AmpEntry.restored_latch (e : AmpEntry) : e.restored.latch = e.latch := by
  unfold AmpEntry.restored
  split <;> rfl

@[simp] theorem AmpEntry.grant_latch (clock : Nat) (kind : AmpKind) (e : AmpEntry) : (e.grant clock kind).latch = true := by
  unfold AmpEntry.grant
  split
  · assumption
  · rfl

@[simp] theorem PumpEntry.attribute_latch (c : Commissioning) (clock : Nat) (wholly : Bool) (e : PumpEntry) :
    (e.attribute c clock wholly).latch = e.latch := by
  unfold PumpEntry.attribute
  split
  · rfl
  · split <;> rfl

@[simp] theorem PumpEntry.probeResult_latch (c : Commissioning) (clock : Nat) (good : Bool) (e : PumpEntry) :
    (e.probeResult c clock good).latch = e.latch := by
  unfold PumpEntry.probeResult
  split
  · rfl
  · split <;> rfl

@[simp] theorem PumpEntry.cleared_latch (clock : Nat) (e : PumpEntry) : (e.cleared clock).latch = e.latch := by
  unfold PumpEntry.cleared
  split <;> rfl

@[simp] theorem PumpEntry.restored_latch (e : PumpEntry) : e.restored.latch = e.latch := by
  unfold PumpEntry.restored
  split <;> rfl

@[simp] theorem PumpEntry.grant_latch (clock : Nat) (e : PumpEntry) : (e.grant clock).latch = true := by
  unfold PumpEntry.grant
  split
  · assumption
  · rfl

/-- The latches of the table. -/
structure Flt.SameLatches (f g : Flt) : Prop where
  amps : g.amps.map AmpEntry.latch = f.amps.map AmpEntry.latch
  pumps : g.pumps.map PumpEntry.latch = f.pumps.map PumpEntry.latch

theorem Flt.takeClasses_latches (clock : Nat) (l : Lmu) (f : Flt) : f.SameLatches (f.takeClasses clock l) := by
  refine ⟨?_, rfl⟩
  unfold Flt.takeClasses
  exact map_mapIdx_kept (by intros; rfl) _

theorem Flt.warm_latches (clock : Nat) (now : Moment) (l : Lmu) (f : Flt) : f.SameLatches (f.warm clock now l) := by
  refine ⟨(Flt.takeClasses_latches clock l _).amps.trans ?_, ?_⟩
  · simp
  · simp [Flt.warm, Flt.takeClasses]

theorem State.judged_latches (s : State) : s.flt.SameLatches s.judged :=
  ⟨(map_mapIdx_kept (fun _ e => (AmpEntry.attribute_score _ e).2.2) _).trans
      (map_mapIdx_kept (fun _ _ => AmpEntry.scored_latch ..) _),
    map_mapIdx_kept (fun _ _ => PumpEntry.attribute_latch ..) _⟩

/-- A latched pump is OFF (R137). -/
def Pbc.LatchedOff (p : Pbc) : Prop := ∀ x ∈ p.pumps, x.latch = true → x.state = .off

theorem Pump.ramp_latch (k : PumpConfig) (now : Moment) (x : Pump) : (x.ramp k now).latch = x.latch :=
  (Pump.ramp_steered k now x.target x).2.1

theorem Pbc.retarget_latches (p : Pbc) (c : Commissioning) (now : Moment) :
    (p.retarget c now).pumps.map Pump.latch = p.pumps.map Pump.latch :=
  map_mapIdx_kept (fun _ _ => by rw [Pump.ramp_latch]) _

theorem Pbc.LatchedOff.retarget {p : Pbc} (h : p.LatchedOff) (c : Commissioning) (now : Moment) :
    (p.retarget c now).LatchedOff :=
  forall_mem_mapIdx h fun j x hx hlatch => by
    rw [Pump.ramp_latch] at hlatch
    rw [Pump.ramp_state]
    exact hx hlatch

/-- The pumps keep their latches, and those that are latched stay OFF. -/
structure Pbc.SameIsolations (p q : Pbc) : Prop where
  bypass : q.bypass = p.bypass
  latches : q.pumps.map Pump.latch = p.pumps.map Pump.latch
  off : p.LatchedOff → q.LatchedOff

theorem Pbc.SameIsolations.rfl {p : Pbc} : p.SameIsolations p := ⟨.refl _, .refl _, id⟩

theorem Pbc.SameIsolations.trans {p q r : Pbc} (h1 : p.SameIsolations q) (h2 : q.SameIsolations r) : p.SameIsolations r :=
  ⟨h2.bypass.trans h1.bypass, h2.latches.trans h1.latches, h2.off ∘ h1.off⟩

theorem Pbc.retarget_isolations (p : Pbc) (c : Commissioning) (now : Moment) : p.SameIsolations (p.retarget c now) :=
  ⟨rfl, p.retarget_latches c now, fun h => h.retarget c now⟩

theorem Pbc.hear_isolations (p : Pbc) (c : Commissioning) (now : Moment) (rs : List Neighbour) (q : Nat) :
    p.SameIsolations (p.hear c now rs q) := by
  have h : p.SameIsolations { p with demands := (p.hear c now rs q).demands } := ⟨rfl, rfl, id⟩
  exact h.trans (Pbc.retarget_isolations _ c now)

theorem Pump.remap_isolation (k : PumpConfig) (wholly : Bool) (x : Pump) :
    (x.remap k wholly).latch = x.latch ∧ (x.latch = true → x.remap k wholly = x) := by
  refine ⟨Pump.remap_latch .., fun h => ?_⟩
  simp [Pump.remap, h]

theorem Pbc.remap_isolations (p : Pbc) (c : Commissioning) (now : Moment) : p.SameIsolations (p.remap c now) := by
  unfold Pbc.remap
  refine Pbc.SameIsolations.trans ?_ (Pbc.retarget_isolations _ c now)
  refine ⟨rfl, map_mapIdx_kept (fun _ _ => (Pump.remap_isolation ..).1) _, fun h => ?_⟩
  refine forall_mem_mapIdx h fun j x hx hlatch => ?_
  obtain ⟨hkeep, hstand⟩ := Pump.remap_isolation (c.pump j) (p.whollyBypassed c j) x
  rw [hkeep] at hlatch
  rw [hstand hlatch]
  exact hx hlatch

theorem Pump.warm_isolation (k : PumpConfig) (x : Pump) :
    (x.warm k).latch = x.latch ∧ (x.state = .off → (x.warm k).state = .off) := by
  unfold Pump.warm
  split
  case h_1 h => exact ⟨rfl, fun ho => absurd (h.symm.trans ho) nofun⟩
  case h_2 h => exact ⟨rfl, fun ho => absurd (h.symm.trans ho) nofun⟩
  case h_3 => exact ⟨rfl, id⟩

theorem Pbc.warm_isolations (p : Pbc) (c : Commissioning) (now : Moment) : p.SameIsolations (p.warm c now) := by
  unfold Pbc.warm
  refine Pbc.SameIsolations.trans ?_ (Pbc.retarget_isolations _ c now)
  refine ⟨rfl, map_mapIdx_kept (fun _ _ => (Pump.warm_isolation ..).1) _, fun h => ?_⟩
  refine forall_mem_mapIdx h fun j x hx hlatch => ?_
  obtain ⟨hkeep, hoff⟩ := Pump.warm_isolation (c.pump j) x
  exact hoff (hx (hkeep ▸ hlatch))

/-- One pump changed, keeping its latch and, where it is latched, its state. -/
theorem Pbc.SameIsolations.modify {p q : Pbc} {i : Nat} {f : Pump → Pump} (hb : q.bypass = p.bypass)
    (hq : q.pumps = p.pumps.modify i f)
    (hf : ∀ x, p.pumps[i]? = some x → (f x).latch = x.latch ∧ (x.state = .off → (f x).state = .off)) :
    p.SameIsolations q := by
  refine ⟨hb, ?_, fun h => ?_⟩
  · rw [hq]
    exact map_modify_kept fun x hx => (hf x hx).1
  · unfold Pbc.LatchedOff
    rw [hq]
    intro y hy hlatch
    obtain ⟨j, hj⟩ := List.getElem?_of_mem hy
    obtain ⟨x, hx, rfl⟩ := getElem?_modify_some hj
    have hmem := List.mem_of_getElem? hx
    split at hlatch
    · next hij =>
      subst hij
      obtain ⟨hkeep, hoff⟩ := hf x hx
      simp only [if_true]
      exact hoff (h x hmem (hkeep ▸ hlatch))
    · next hij =>
      rw [if_neg hij]
      exact h x hmem hlatch

theorem LatchesAgree.of_same (hs : LatchesAgree s) (hf : s.flt.SameLatches t.flt) (hp : s.pbc.SameIsolations t.pbc) :
    LatchesAgree t := by
  obtain ⟨hamps, hpumps, hoff⟩ := hs
  exact ⟨by rw [hp.bypass, hf.amps, hamps], by rw [hp.latches, hf.pumps, hpumps], hp.off hoff⟩

/-- Setting one entry of a list of latches. -/
theorem map_modify_set {α : Type} {g : α → Bool} {f : α → α} (hf : ∀ x, g (f x) = true) (l : List α) (i : Nat) :
    (l.modify i f).map g = (l.map g).set i true := by
  apply List.ext_getElem?
  intro j
  rw [List.getElem?_map, List.getElem?_modify, List.getElem?_set, List.length_map]
  by_cases hij : i = j
  · subst hij
    by_cases hi : i < l.length
    · simp [hi, hf]
    · simp [hi]
  · simp [hij]

theorem Move.latches_agree (h : Move s t) (hs : LatchesAgree s) : LatchesAgree t := by
  have hflt : s.flt.SameLatches s.flt := ⟨rfl, rfl⟩
  have hpbc : s.pbc.SameIsolations s.pbc := .rfl
  cases h
  case aside h => exact hs.of_same (h.flt ▸ hflt) (h.pbc ▸ ⟨rfl, rfl, id⟩)
  case classChange ev =>
    rw [LatchesAgree, State.deliverClass_flt, State.deliverClass_pbc]
    exact hs.of_same (t := { s with flt := s.flt.classChange s.cfg s.cfl.clock ev })
      ⟨map_modify_kept fun _ _ => rfl, rfl⟩ hpbc
  case tracker => exact hs.of_same (by rw [State.onTracker_flt]; exact hflt) (by rw [State.onTracker_pbc]; exact hpbc)
  case wake => exact hs.of_same (by rw [State.setBank_flt]; exact hflt) (by rw [State.setBank_pbc]; exact hpbc)
  case visit =>
    exact hs.of_same (by rw [State.visited, State.setBank_flt]; exact hflt)
      (by rw [State.visited, State.setBank_pbc]; exact hpbc)
  case presence =>
    refine hs.of_same (by rw [State.presenceChange_flt, State.visited, State.setBank_flt]; exact hflt) ?_
    refine State.presenceChange_pbc (P := s.pbc.SameIsolations) (fun p rs q hp => hp.trans (p.hear_isolations _ _ _ _)) ?_
    rw [State.visited, State.setBank_pbc]
    exact hpbc
  case tellFlt => exact hs.of_same ⟨rfl, rfl⟩ hpbc
  case tellPbc => exact hs.of_same hflt (Pbc.hear_isolations ..)
  case settle => exact hs.of_same ⟨rfl, rfl⟩ hpbc
  case probeResult =>
    exact hs.of_same ⟨rfl, map_modify_kept fun _ _ => PumpEntry.probeResult_latch ..⟩ hpbc
  case withdraw => exact hs.of_same ⟨rfl, map_modify_kept fun _ _ => rfl⟩ hpbc
  case epoch => exact hs.of_same ⟨rfl, rfl⟩ hpbc
  case judged => exact hs.of_same s.judged_latches hpbc
  case remap => exact hs.of_same hflt (Pbc.remap_isolations ..)
  case rereference =>
    refine hs.of_same ⟨?_, ?_⟩ hpbc
    · simp [State.rereference, Flt.clearForRereference]
    · simp [State.rereference, Flt.clearForRereference]
  case stepOnce => exact hs.of_same hflt (.modify rfl rfl fun x _ => ⟨rfl, id⟩)
  case lower j hgrant =>
    refine hs.of_same hflt (.modify (i := j) rfl rfl fun x hx => ⟨rfl, fun hoff => ?_⟩)
    unfold State.grantsProbe Pbc.isIn at hgrant
    simp [hx, hoff] at hgrant
  case restore r _ _ =>
    refine hs.of_same hflt (.modify (i := r.pump) rfl rfl fun x hx => ?_)
    unfold Pump.restore
    split
    · next hp => exact ⟨Pump.ramp_latch .., fun ho => absurd (hp.symm.trans ho) nofun⟩
    · exact ⟨rfl, id⟩
  case restart =>
    refine hs.of_same ?_ (Pbc.warm_isolations ..)
    unfold State.warmRestart
    dsimp only [State.report_flt]
    split
    · obtain ⟨ha, hp⟩ := Flt.warm_latches s.cfl.clock s.now s.lmu (s.flt.startSettle s.cfg s.now _)
      exact ⟨ha, hp⟩
    · exact Flt.warm_latches _ _ _ _
  case bypass a kind hsup =>
    obtain ⟨hamps, hpumps, hoff⟩ := hs
    refine ⟨?_, hpumps, hoff⟩
    show s.pbc.bypass.set a true = (s.flt.amps.modify a (AmpEntry.grant s.cfl.clock kind)).map AmpEntry.latch
    rw [map_modify_set (fun _ => AmpEntry.grant_latch ..), hamps]
  case isolate j hkeep =>
    obtain ⟨hamps, hpumps, hoff⟩ := hs
    refine ⟨hamps, ?_, Pbc.LatchedOff.retarget ?_ _ _⟩
    · show (Pbc.retarget _ s.cfg s.now).pumps.map Pump.latch =
        (s.flt.pumps.modify j (PumpEntry.grant s.cfl.clock)).map PumpEntry.latch
      rw [Pbc.retarget_latches, map_modify_set (fun _ => PumpEntry.grant_latch ..), ← hpumps]
      exact map_modify_set (fun _ => rfl) _ _
    · exact forall_mem_modify hoff fun x _ _ _ => rfl
  case release =>
    obtain ⟨hamps, hpumps, hoff⟩ := hs
    refine ⟨?_, ?_, Pbc.LatchedOff.retarget ?_ _ _⟩
    · show s.pbc.bypass.map (fun _ => false) =
        (s.flt.amps.mapIdx fun a e => if s.pbc.bypass.getD a false then e.release s.cfl.clock else e).map AmpEntry.latch
      rw [hamps]
      apply List.ext_getElem?
      intro a
      simp only [List.getElem?_map, List.getElem?_mapIdx, List.getD_eq_getElem?_getD]
      cases s.flt.amps[a]? with
      | none => rfl
      | some e => cases he : e.latch <;> simp [he, AmpEntry.release]
    · show (Pbc.retarget _ s.cfg s.now).pumps.map Pump.latch =
        (s.flt.pumps.mapIdx fun j e =>
          if s.pbc.pumps[j]?.any Pump.latch then e.release s.cfl.clock else e).map PumpEntry.latch
      rw [Pbc.retarget_latches]
      apply List.ext_getElem?
      intro j
      have hj : s.pbc.pumps[j]?.map Pump.latch = s.flt.pumps[j]?.map PumpEntry.latch := by
        simpa using congrArg (fun l => l[j]?) hpumps
      simp only [List.getElem?_map, List.getElem?_mapIdx]
      cases hx : s.pbc.pumps[j]? with
      | none => cases he : s.flt.pumps[j]? <;> simp_all
      | some x =>
        cases he : s.flt.pumps[j]? with
        | none => simp [hx, he] at hj
        | some e =>
          have hxe : x.latch = e.latch := by simpa [hx, he] using hj
          have hreleased : (x.released (s.cfg.pump j)).latch = false := by
            unfold Pump.released
            split <;> rfl
          cases hl : e.latch <;> simp [hreleased, hxe, hl, PumpEntry.release]
    · refine forall_mem_mapIdx (P := fun _ => True) (fun _ _ => trivial) fun j x _ hlatch => ?_
      unfold Pump.released at hlatch
      split at hlatch <;> cases hlatch
  all_goals exact hs

end

/-- Settles O60: each move keeps the latches as they are, or sets or clears the two of one isolation together. -/
theorem everyStepKeepsTheLatchesInAgreement : Obligations.EveryStepKeepsTheLatchesInAgreement := by
  intro s t hl hs h
  refine step_keeps (P := LatchesAgree) (fun u hu _ => ?untouched) (fun u raw _ _ => ?declared)
    (fun u v _ _ hm hu => hm.latches_agree hu) hl hs h
  case untouched =>
    have hflt : u.flt = Flt.cold := hu.2.2.2.2.2.2.1
    obtain ⟨hpumps, hbypass, -⟩ := hu.pbc_fields
    simp [LatchesAgree, hflt, hpumps, hbypass, Flt.cold]
  case declared =>
    refine ⟨?_, ?_, Pbc.LatchedOff.retarget ?_ _ _⟩
    · show List.replicate u.cfg.ampCount false = (Flt.start u.cfg u.cfl.clock u.now _).amps.map AmpEntry.latch
      rw [Flt.start, (Flt.takeClasses_latches ..).amps]
      simp [AmpEntry.start]
    · show (u.pbc.start u.cfg u.now).pumps.map Pump.latch = (List.replicate u.cfg.m (PumpEntry.start u.cfl.clock)).map PumpEntry.latch
      rw [Pbc.start, Pbc.retarget_latches]
      have hpumps : u.cfg.pumps.map (Pump.latch ∘ Pump.start) = u.cfg.pumps.map fun _ => false := rfl
      simp [PumpEntry.start, hpumps]
    · intro x hx hlatch
      obtain ⟨k, -, rfl⟩ := List.mem_map.1 hx
      cases hlatch

/-- Settles O53: each change of an entry keeps its score in range, and above the release level while FAULTY; a SPAN entry that
enters FAULTY in an epoch has a basis, so stage 2 gives it a kind. -/
theorem everyStepKeepsTheScoresSound : Obligations.EveryStepKeepsTheScoresSound := by
  intro s t hl hs hk h
  refine step_keeps (P := fun u => ScoresSound u ∧ SpanKindsSound u) (fun u hu _ => ?untouched)
    (fun u raw hu hc => ?declared) (fun u v _ hc hm ⟨hs, hk⟩ => ⟨?moved, hm.spans_kinded hk⟩) hl ⟨hs, hk⟩ h
  case untouched =>
    have hflt : u.flt = Flt.cold := hu.2.2.2.2.2.2.1
    obtain ⟨-, -, -, -, -, hrestores⟩ := hu.pbc_fields
    simp [ScoresSound, SpanKindsSound, hflt, hrestores, Flt.cold]
  case moved =>
    rw [scoresSound_iff] at hs ⊢
    rw [hm.cfg]
    exact ⟨hm.table_scored hc.levels hs.1 hs.2, hm.notes_scored hs.1 hs.2⟩
  case declared =>
    obtain ⟨-, -, -, -, -, hrestores⟩ := hu.pbc_fields
    refine ⟨scoresSound_iff.2 ⟨?_, ?_⟩, Flt.takeClasses_kinded fun e he => ?_⟩
    · refine Flt.Scored.takeClasses hc.levels ⟨fun e he => ?_, fun e he => ?_, fun e he => ?_⟩ _ _
      all_goals
        rw [List.eq_of_mem_replicate he]
        exact scoreSound_clear _
    · show ∀ r ∈ u.pbc.restores, _
      rw [hrestores]
      nofun
    · rw [List.eq_of_mem_replicate he]
      exact ⟨fun h => absurd rfl h, nofun⟩

end Sys2Proof.Machine
end

section
/-! The supervisory pair stays fed (O59): what each operation of the PBC leaves of the pumps that feed an amplifier in-line. -/

namespace Sys2Proof.Machine

section
variable {s t : State}

/-- Neither OFF nor FLOOR. -/
def Pump.Driving (x : Pump) : Prop := x.state = .active ∨ x.state = .probe

/-- Amplifier `a` is in-line, a pump that is neither OFF nor FLOOR feeds it, and none in FLOOR does. -/
structure Pbc.Fed (c : Commissioning) (a : Nat) (p : Pbc) : Prop where
  inLine : p.bypassed a = false
  driven : ∃ (j : Nat) (x : Pump), p.pumps[j]? = some x ∧ c.feeds j a = true ∧ x.Driving
  noFloor : ∀ (j : Nat) (x : Pump), p.pumps[j]? = some x → c.feeds j a = true → x.state ≠ .floor

theorem Pbc.mem_feeders {p : Pbc} {c : Commissioning} {a j : Nat} :
    j ∈ p.feeders c a ↔ j < p.pumps.length ∧ c.feeds j a = true := by simp [Pbc.feeders]

theorem State.fed_iff (s : State) (a : Nat) : s.fed a ↔ s.pbc.Fed s.cfg a := by
  have hdriven : (s.pbc.feeders s.cfg a).any (fun j => s.pbc.isIn j [.active, .probe]) = true ↔
      ∃ (j : Nat) (x : Pump), s.pbc.pumps[j]? = some x ∧ s.cfg.feeds j a = true ∧ x.Driving := by
    rw [List.any_eq_true]
    constructor
    · rintro ⟨j, hj, hin⟩
      obtain ⟨hlt, hf⟩ := Pbc.mem_feeders.1 hj
      have hx := List.getElem?_eq_getElem hlt
      rw [Pbc.isIn_of_getElem? hx] at hin
      exact ⟨j, _, hx, hf, by simpa [Pump.Driving] using hin⟩
    · rintro ⟨j, x, hx, hf, hd⟩
      refine ⟨j, Pbc.mem_feeders.2 ⟨(List.getElem?_eq_some_iff.1 hx).1, hf⟩, ?_⟩
      rw [Pbc.isIn_of_getElem? hx]
      simpa [Pump.Driving] using hd
  have hfloor : (s.pbc.feeders s.cfg a).all (fun j => !s.pbc.isIn j [.floor]) = true ↔
      ∀ (j : Nat) (x : Pump), s.pbc.pumps[j]? = some x → s.cfg.feeds j a = true → x.state ≠ .floor := by
    rw [List.all_eq_true]
    constructor
    · intro h j x hx hf
      have hj := h j (Pbc.mem_feeders.2 ⟨(List.getElem?_eq_some_iff.1 hx).1, hf⟩)
      rw [Pbc.isIn_of_getElem? hx] at hj
      simpa using hj
    · intro h j hj
      obtain ⟨hlt, hf⟩ := Pbc.mem_feeders.1 hj
      have hx := List.getElem?_eq_getElem hlt
      rw [Pbc.isIn_of_getElem? hx]
      simpa using h j _ hx hf
  unfold State.fed
  rw [hdriven, hfloor]
  exact ⟨fun ⟨h1, h2, h3⟩ => ⟨h1, h2, h3⟩, fun ⟨h1, h2, h3⟩ => ⟨h1, h2, h3⟩⟩

/-- A pump that goes from `x` to `y` goes neither out of ACTIVE and PROBE nor into FLOOR. -/
structure Pump.KeepsFeeding (x y : Pump) : Prop where
  driving : x.Driving → y.Driving
  floor : x.state ≠ .floor → y.state ≠ .floor

theorem Pump.KeepsFeeding.of_state {x y : Pump} (h : y.state = x.state) : x.KeepsFeeding y :=
  ⟨fun hd => by rwa [Pump.Driving, h], fun hf => by rwa [h]⟩

theorem Pump.KeepsFeeding.of_driving {x y : Pump} (h : y.Driving) : x.KeepsFeeding y :=
  ⟨fun _ => h, fun _ hf => by rcases h with h | h <;> cases h.symm.trans hf⟩

/-- A pump that is not wholly bypassed is not remapped (R136). -/
theorem Pump.remap_keeps (k : PumpConfig) (x : Pump) : x.KeepsFeeding (x.remap k false) := by
  unfold Pump.remap
  split
  · exact .of_state rfl
  · split
    case h_1 heq => cases heq
    case h_2 heq => cases heq
    case h_3 => exact .of_driving (.inl rfl)
    case h_4 => exact .of_driving (.inl rfl)
    case h_5 => exact .of_state rfl

theorem Pump.released_keeps (k : PumpConfig) (x : Pump) : x.KeepsFeeding (x.released k) := by
  unfold Pump.released
  split
  · exact .of_driving (.inl rfl)
  · exact .of_driving (.inl rfl)
  · exact .of_state rfl

theorem Pump.warm_keeps (k : PumpConfig) (x : Pump) : x.KeepsFeeding (x.warm k) := by
  unfold Pump.warm
  split
  · exact .of_state rfl
  · exact .of_driving (.inl rfl)
  · exact .of_state rfl

theorem Pump.restore_keeps (k : PumpConfig) (now : Moment) (x : Pump) : x.KeepsFeeding (x.restore k now) := by
  unfold Pump.restore
  split
  · exact .of_driving (.inl (Pump.ramp_state ..))
  · exact .of_state rfl

section
variable {c : Commissioning} {a : Nat} {p q : Pbc}

/-- The pumps that feed the amplifier go on feeding it. -/
theorem Pbc.Fed.mapIdx {f : Nat → Pump → Pump} (h : p.Fed c a) (hq : q.pumps = p.pumps.mapIdx f)
    (hb : q.bypassed a = false) (hf : ∀ (j : Nat) (x : Pump), c.feeds j a = true → x.KeepsFeeding (f j x)) : q.Fed c a := by
  refine ⟨hb, ?_, fun j y hy hfeeds => ?_⟩
  · obtain ⟨j, x, hx, hfeeds, hd⟩ := h.driven
    exact ⟨j, f j x, by rw [hq, getElem?_mapIdx_some]; exact ⟨x, hx, rfl⟩, hfeeds, (hf j x hfeeds).driving hd⟩
  · rw [hq, getElem?_mapIdx_some] at hy
    obtain ⟨x, hx, rfl⟩ := hy
    exact (hf j x hfeeds).floor (h.noFloor j x hx hfeeds)

theorem Pbc.Fed.modify {i : Nat} {f : Pump → Pump} (h : p.Fed c a) (hq : q.pumps = p.pumps.modify i f)
    (hb : q.bypass = p.bypass) (hf : ∀ x, p.pumps[i]? = some x → x.KeepsFeeding (f x)) : q.Fed c a := by
  refine ⟨by rw [Pbc.bypassed, hb]; exact h.inLine, ?_, fun j y hy hfeeds => ?_⟩
  · obtain ⟨j, x, hx, hfeeds, hd⟩ := h.driven
    refine ⟨j, if i = j then f x else x, by rw [hq, List.getElem?_modify, hx]; rfl, hfeeds, ?_⟩
    split
    · next hij => exact (hf x (hij ▸ hx)).driving hd
    · exact hd
  · rw [hq] at hy
    obtain ⟨x, hx, rfl⟩ := getElem?_modify_some hy
    split
    · next hij => exact (hf x (hij ▸ hx)).floor (h.noFloor j x hx hfeeds)
    · exact h.noFloor j x hx hfeeds

theorem Pbc.Fed.retarget (h : p.Fed c a) (now : Moment) : (p.retarget c now).Fed c a :=
  h.mapIdx (q := p.retarget c now) rfl h.inLine fun _ _ _ => .of_state (Pump.ramp_state ..)

theorem Pbc.Fed.hear (h : p.Fed c a) (now : Moment) (rs : List Neighbour) (q : Nat) : (p.hear c now rs q).Fed c a := by
  unfold Pbc.hear
  refine Pbc.Fed.retarget ?_ now
  exact ⟨h.inLine, h.driven, h.noFloor⟩

/-- Remap does not reach a pump that feeds an amplifier in-line (R136). -/
theorem Pbc.Fed.remap (h : p.Fed c a) (now : Moment) : (p.remap c now).Fed c a := by
  unfold Pbc.remap
  refine Pbc.Fed.retarget ?_ now
  refine h.mapIdx rfl h.inLine fun j x hfeeds => ?_
  have hwholly : p.whollyBypassed c j = false := by
    rw [Bool.eq_false_iff]
    intro hw
    have hbyp := (p.bypassed_iff a).2 (((p.whollyBypassed_iff c j).1 hw).2 a hfeeds)
    cases hbyp.symm.trans h.inLine
  rw [hwholly]
  exact x.remap_keeps _

/-- An isolation that R137 does not refuse leaves another pump that feeds the amplifier. -/
theorem Pbc.Fed.isolate {j : Nat} (h : p.Fed c a) (hj : p.lastFeeding c j a = false)
    (hq : q.pumps = p.pumps.modify j fun x => { x.toOff with latch := true }) (hb : q.bypass = p.bypass) : q.Fed c a := by
  have hother : ∃ (i : Nat) (x : Pump), p.pumps[i]? = some x ∧ c.feeds i a = true ∧ x.Driving ∧ i ≠ j := by
    by_contra hnone
    obtain ⟨i, x, hx, hfeeds, hd⟩ := h.driven
    have hij : i = j := by_contra fun hne => hnone ⟨i, x, hx, hfeeds, hd, hne⟩
    subst hij
    refine Bool.eq_false_iff.1 hj ((p.lastFeeding_iff a).2 ⟨hfeeds, ⟨x, hx, fun ho => ?_⟩, fun l hl hfl hlit => ?_⟩)
    · rcases hd with hd | hd <;> cases hd.symm.trans ho
    · obtain ⟨y, hy, hoff⟩ := hlit
      refine hnone ⟨l, y, hy, hfl, ?_, hl⟩
      have hfloor := h.noFloor l y hy hfl
      cases hs : y.state
      · exact .inl hs
      · exact .inr hs
      · exact absurd hs hfloor
      · exact absurd hs hoff
  refine ⟨by rw [Pbc.bypassed, hb]; exact h.inLine, ?_, fun l y hy hfl => ?_⟩
  · obtain ⟨i, x, hx, hfeeds, hd, hne⟩ := hother
    exact ⟨i, x, by simp [hq, hne.symm, hx], hfeeds, hd⟩
  · rw [hq] at hy
    obtain ⟨x, hx, rfl⟩ := getElem?_modify_some hy
    split
    · nofun
    · exact h.noFloor l x hx hfl

end

theorem State.mustKeep_eq_false (h : s.mustKeep j = false) (b : Bank) :
    s.pbc.lastFeeding s.cfg j (s.cfg.supAmp b) = false := by
  obtain ⟨he, hw⟩ := Bool.or_eq_false_iff.1 h
  cases b
  · exact he
  · exact hw

/-- Every move leaves the supervisory amplifiers fed (R135 to R138). -/
theorem Move.fed (h : Move s t) (b : Bank) (hs : s.pbc.Fed s.cfg (s.cfg.supAmp b)) :
    t.pbc.Fed s.cfg (s.cfg.supAmp b) := by
  cases h
  case aside h => rw [h.pbc]; exact ⟨hs.inLine, hs.driven, hs.noFloor⟩
  case classChange => rw [State.deliverClass_pbc]; exact hs
  case tracker => rw [State.onTracker_pbc]; exact hs
  case wake => rw [State.setBank_pbc]; exact hs
  case visit => rw [State.visited, State.setBank_pbc]; exact hs
  case presence b' w o old _ =>
    have hcfg : (s.visited b' w o).cfg = s.cfg := by rw [State.visited, State.setBank_cfg]; rfl
    refine State.presenceChange_pbc (P := Pbc.Fed s.cfg (s.cfg.supAmp b)) (fun p rs q hp => ?_) ?_
    · rw [hcfg]
      exact hp.hear _ _ _
    · rw [State.visited, State.setBank_pbc]
      exact hs
  case tellPbc => exact hs.hear ..
  case askRestore => exact ⟨hs.inLine, hs.driven, hs.noFloor⟩
  case bypass a kind hsup =>
    have hne : a ≠ s.cfg.supAmp b := fun heq => by
      refine Bool.eq_false_iff.1 hsup ((s.cfg.isSupervisory_iff a).2 ?_)
      cases b
      · exact .inl heq
      · exact .inr heq
    refine ⟨?_, hs.driven, hs.noFloor⟩
    show (s.pbc.bypass.set a true).getD (s.cfg.supAmp b) false = false
    rw [List.getD_eq_getElem?_getD, List.getElem?_set_ne hne, ← List.getD_eq_getElem?_getD]
    exact hs.inLine
  case remap => exact hs.remap _
  case isolate j hkeep =>
    refine Pbc.Fed.retarget ?_ s.now
    exact hs.isolate (State.mustKeep_eq_false hkeep b) rfl rfl
  case stepOnce => exact hs.modify rfl rfl fun x _ => .of_state rfl
  case lower => exact hs.modify rfl rfl fun x _ => .of_driving (.inr rfl)
  case restore => exact hs.modify rfl rfl fun x _ => x.restore_keeps _ _
  case release =>
    refine Pbc.Fed.retarget (hs.mapIdx rfl ?_ fun j x _ => x.released_keeps _) _
    simp only [Pbc.bypassed, List.getD_eq_getElem?_getD, List.getElem?_map]
    cases s.pbc.bypass[s.cfg.supAmp b]? <;> rfl
  case restart =>
    show (s.pbc.warm s.cfg s.now).Fed s.cfg (s.cfg.supAmp b)
    unfold Pbc.warm
    refine Pbc.Fed.retarget ?_ s.now
    exact hs.mapIdx rfl hs.inLine fun j x _ => x.warm_keeps _
  all_goals exact hs

theorem supervisoryFed_iff : SupervisoryFed s ↔ (s.cfl.valid = true → ∀ b, s.pbc.Fed s.cfg (s.cfg.supAmp b)) := by
  unfold SupervisoryFed
  rw [State.fed_iff, State.fed_iff]
  refine imp_congr_right fun _ => ⟨fun ⟨he, hw⟩ b => ?_, fun h => ⟨h .e, h .w⟩⟩
  cases b
  · exact he
  · exact hw

/-- A pump that the record has feeds each supervisory amplifier (R167, check 14). -/
theorem State.commissioned.feeds_supervisory (hc : s.commissioned) (b : Bank) :
    ∃ j < s.cfg.m, s.cfg.feeds j (s.cfg.supAmp b) = true := by
  rw [exists_feeds_iff s.cfg_pumps_length]
  refine (supervisoryCheck_iff s.cfg_pumps_length).1
    (checkPasses_of_firstFailure_eq_none hc (by decide) (by decide)) _ ?_
  cases b
  · exact .inl rfl
  · exact .inr rfl

theorem State.declare_fed (s : State) (hc : s.commissioned) (b : Bank) :
    (s.pbc.start s.cfg s.now).Fed s.cfg (s.cfg.supAmp b) := by
  unfold Pbc.start
  refine Pbc.Fed.retarget ⟨?_, ?_, fun j x hx _ => ?_⟩ _
  · simp only [Pbc.bypassed, List.getD_eq_getElem?_getD, List.getElem?_replicate]
    split <;> rfl
  · obtain ⟨j, hj, hfeeds⟩ := hc.feeds_supervisory b
    have hx : s.cfg.pumps[j]? = some (s.cfg.pump j) := Commissioning.pumps_getElem? (hj.trans_eq s.cfg_pumps_length.symm)
    exact ⟨j, Pump.start (s.cfg.pump j), by rw [List.getElem?_map, hx]; rfl, hfeeds, .inl rfl⟩
  · obtain ⟨k, -, rfl⟩ := Option.map_eq_some_iff.1 (List.getElem?_map.symm.trans hx)
    nofun

end

/-- Settles O59: no operation takes the last pump that feeds a supervisory amplifier, nor bypasses it; and a pump that feeds it is a
carrying one. -/
theorem everyStepKeepsTheSupervisoryPairFed : Obligations.EveryStepKeepsTheSupervisoryPairFed := by
  intro s t hl hs h
  have ht : SupervisoryFed t := by
    refine step_keeps (P := SupervisoryFed) (fun u _ hv hu => ?_) (fun u raw _ hc => ?_) (fun u v _ _ hm hu => ?_) hl hs h
    · cases hv.symm.trans hu
    · exact supervisoryFed_iff.2 fun _ b => u.declare_fed hc b
    · rw [supervisoryFed_iff, hm.cfg, hm.valid]
      exact fun hv b => hm.fed b (supervisoryFed_iff.1 hu hv b)
  refine ⟨ht, fun hv b => ?_⟩
  obtain ⟨j, x, hx, hfeeds, hd⟩ := (supervisoryFed_iff.1 ht hv b).driven
  refine ⟨j, x, hx, fun ho => ?_, ?_, hfeeds⟩
  · rcases hd with hd | hd <;> cases hd.symm.trans ho
  · rw [State.carrying, Pbc.isIn_of_getElem? hx, Bool.and_eq_true, Bool.or_eq_true]
    refine ⟨by rcases hd with hd | hd <;> simp [hd], ?_⟩
    cases b
    · exact .inl hfeeds
    · exact .inr hfeeds

end Sys2Proof.Machine
end

section
/-! The capture policy as a relation (R56 to R59): each step assigns an IDLE CAPTURE tracker, or moves the farthest capture, to the
nearest eligible position that is free. -/

namespace Sys2Proof.Machine

/-! ### The nearest and the farthest of some positions -/

section
variable {p q : Nat} {qs : List Nat}

/-- The farthest of some positions, the first among equals. -/
def farthestOf (p : Nat) (qs : List Nat) : Option Nat :=
  qs.foldl (fun best q => match best with
    | none => some q
    | some y => if distance p y < distance p q then some q else some y) none

theorem nearestOf_cons_spec (p q : Nat) (qs : List Nat) :
    ∃ y, nearestOf p (q :: qs) = some y ∧ y ∈ q :: qs ∧ ∀ r ∈ q :: qs, distance p y ≤ distance p r := by
  induction qs generalizing q with
  | nil => exact ⟨q, rfl, List.mem_singleton_self q, by simp⟩
  | cons z zs ih =>
    have hstep : nearestOf p (q :: z :: zs) = nearestOf p ((if distance p z < distance p q then z else q) :: zs) := by
      by_cases h : distance p z < distance p q <;> simp [nearestOf, h]
    obtain ⟨y, hy, hmem, hmin⟩ := ih (if distance p z < distance p q then z else q)
    have hhead := hmin _ List.mem_cons_self
    refine ⟨y, hstep.trans hy, ?_, fun r hr => ?_⟩
    · rcases List.mem_cons.1 hmem with rfl | hmem
      · split <;> simp
      · simp [hmem]
    · rcases List.mem_cons.1 hr with rfl | hr
      · split at hhead <;> omega
      · rcases List.mem_cons.1 hr with rfl | hr
        · split at hhead <;> omega
        · exact hmin r (List.mem_cons_of_mem _ hr)

theorem farthestOf_cons_spec (p q : Nat) (qs : List Nat) :
    ∃ y, farthestOf p (q :: qs) = some y ∧ y ∈ q :: qs ∧ ∀ r ∈ q :: qs, distance p r ≤ distance p y := by
  induction qs generalizing q with
  | nil => exact ⟨q, rfl, List.mem_singleton_self q, by simp⟩
  | cons z zs ih =>
    have hstep : farthestOf p (q :: z :: zs) = farthestOf p ((if distance p q < distance p z then z else q) :: zs) := by
      by_cases h : distance p q < distance p z <;> simp [farthestOf, h]
    obtain ⟨y, hy, hmem, hmax⟩ := ih (if distance p q < distance p z then z else q)
    have hhead := hmax _ List.mem_cons_self
    refine ⟨y, hstep.trans hy, ?_, fun r hr => ?_⟩
    · rcases List.mem_cons.1 hmem with rfl | hmem
      · split <;> simp
      · simp [hmem]
    · rcases List.mem_cons.1 hr with rfl | hr
      · split at hhead <;> omega
      · rcases List.mem_cons.1 hr with rfl | hr
        · split at hhead <;> omega
        · exact hmax r (List.mem_cons_of_mem _ hr)

theorem nearestOf_eq_some (h : nearestOf p qs = some q) : q ∈ qs ∧ ∀ r ∈ qs, distance p q ≤ distance p r := by
  cases qs with
  | nil => cases h
  | cons x xs =>
    obtain ⟨y, hy, hspec⟩ := nearestOf_cons_spec p x xs
    cases h.symm.trans hy
    exact hspec

theorem nearestOf_eq_none : nearestOf p qs = none ↔ qs = [] := by
  cases qs with
  | nil => exact ⟨fun _ => rfl, fun _ => rfl⟩
  | cons x xs =>
    obtain ⟨y, hy, -⟩ := nearestOf_cons_spec p x xs
    simp [hy]

theorem farthestOf_eq_some (h : farthestOf p qs = some q) : q ∈ qs ∧ ∀ r ∈ qs, distance p r ≤ distance p q := by
  cases qs with
  | nil => cases h
  | cons x xs =>
    obtain ⟨y, hy, hspec⟩ := farthestOf_cons_spec p x xs
    cases h.symm.trans hy
    exact hspec

theorem farthestOf_eq_none : farthestOf p qs = none ↔ qs = [] := by
  cases qs with
  | nil => exact ⟨fun _ => rfl, fun _ => rfl⟩
  | cons x xs =>
    obtain ⟨y, hy, -⟩ := farthestOf_cons_spec p x xs
    simp [hy]

end

/-! ### The positions of a bank's trackers -/

section
variable {x : RxBank} {c : Commissioning} {b : Bank} {i q far : Nat} {k : Tracker}

theorem RxBank.mem_assigned : q ∈ x.assigned ↔ ∃ k ∈ x.trackers, k.pos = some q := List.mem_filterMap

theorem RxBank.isPinned_iff : x.isPinned q = true ↔ ∃ k ∈ x.trackers, k.kind = some .pinned ∧ k.pos = some q := by
  simp [RxBank.isPinned]

theorem RxBank.isCaptured_iff : x.isCaptured q = true ↔ ∃ k ∈ x.trackers, k.kind = some .capture ∧ k.pos = some q := by
  simp [RxBank.isCaptured]

/-- A tracker that has a position has a kind (R48). -/
theorem Tracker.sound.kind_of_pos (h : k.sound) (hq : k.pos = some q) :
    k.kind = some .pinned ∨ k.kind = some .capture := by
  obtain ⟨hidle, -, hnone⟩ := h
  cases hk : k.kind with
  | none => simp [hnone hk, hq] at hidle
  | some kind => cases kind <;> simp

theorem RxBank.mem_assigned_iff (h : ∀ k ∈ x.trackers, k.sound) :
    q ∈ x.assigned ↔ x.isPinned q = true ∨ x.isCaptured q = true := by
  rw [RxBank.mem_assigned, RxBank.isPinned_iff, RxBank.isCaptured_iff]
  constructor
  · rintro ⟨k, hk, hq⟩
    rcases (h k hk).kind_of_pos hq with hkind | hkind
    · exact .inl ⟨k, hk, hkind, hq⟩
    · exact .inr ⟨k, hk, hkind, hq⟩
  · rintro (⟨k, hk, -, hq⟩ | ⟨k, hk, -, hq⟩) <;> exact ⟨k, hk, hq⟩

/-- Two trackers do not share a position (R59). -/
theorem eq_of_pos_of_nodup {l : List Tracker} (h : (l.filterMap Tracker.pos).Nodup) {k k' : Tracker} (hk : k ∈ l)
    (hk' : k' ∈ l) (hq : k.pos = some q) (hq' : k'.pos = some q) : k = k' := by
  induction l with
  | nil => cases hk
  | cons t rest ih =>
    have hrest : (rest.filterMap Tracker.pos).Nodup :=
      h.sublist ((List.sublist_cons_self t rest).filterMap Tracker.pos)
    have hclash (ht : t.pos = some q) {u : Tracker} (hu : u ∈ rest) (huq : u.pos = some q) : False := by
      rw [List.filterMap_cons_some ht] at h
      exact (List.nodup_cons.1 h).1 (List.mem_filterMap.2 ⟨u, hu, huq⟩)
    rcases List.mem_cons.1 hk with hkt | hkr <;> rcases List.mem_cons.1 hk' with hkt' | hkr'
    · rw [hkt, hkt']
    · exact (hclash (hkt ▸ hq) hkr' hq').elim
    · exact (hclash (hkt' ▸ hq') hkr hq).elim
    · exact ih hrest hkr hkr'

/-- The tracker of a captured position is a CAPTURE one. -/
theorem RxBank.capture_of_pos (hx : x.assigned.Nodup) (hq : x.isCaptured q = true) (hk : k ∈ x.trackers)
    (hpos : k.pos = some q) : k.kind = some .capture := by
  obtain ⟨k', hk', hkind, hpos'⟩ := RxBank.isCaptured_iff.1 hq
  rw [eq_of_pos_of_nodup hx hk hk' hpos hpos']
  exact hkind

/-! ### The three changes of a capture -/

def RxBank.assignAt (i q : Nat) (x : RxBank) : RxBank := { x with trackers := x.trackers.modify i (Tracker.assign q) }

def RxBank.evictFor (far q : Nat) (x : RxBank) : RxBank :=
  { x with trackers := x.trackers.map fun t => if t.kind = some .capture ∧ t.pos = some far then t.assign q else t }

def RxBank.freeOf (q : Nat) (x : RxBank) : RxBank :=
  { x with trackers := x.trackers.map fun t => if t.kind = some .capture ∧ t.pos = some q then t.free else t }

theorem RxBank.releaseCapture_eq :
    x.releaseCapture q = if x.isCaptured q then (x.freeOf q, [.removed q]) else (x, []) := rfl

/-- R57, step by step: an IDLE CAPTURE tracker assigned to the nearest free eligible position, or, when none is IDLE, the farthest
capture evicted for it while it is nearer. -/
inductive Captures (c : Commissioning) : RxBank → List CaptureStep → RxBank → Prop
  | done (x : RxBank) : Captures c x [] x
  | fill {x y : RxBank} {i q : Nat} {steps : List CaptureStep} (hi : x.idleCapture = some i) (hq : x.nearestFree c = some q)
      (h : Captures c (x.assignAt i q) steps y) : Captures c x (.created q :: steps) y
  | evict {x y : RxBank} {q far : Nat} {steps : List CaptureStep} (hi : x.idleCapture = none)
      (hq : x.nearestFree c = some q) (hfar : x.farthestCapture c.position = some far)
      (hlt : distance c.position q < distance c.position far) (h : Captures c (x.evictFor far q) steps y) :
      Captures c x (.removed far :: .created q :: steps) y

theorem Captures.append {y z : RxBank} {s1 s2 : List CaptureStep} (h1 : Captures c x s1 y) (h2 : Captures c y s2 z) :
    Captures c x (s1 ++ s2) z := by
  induction h1 with
  | done => exact h2
  | fill hi hq _ ih => exact .fill hi hq (ih h2)
  | evict hi hq hfar hlt _ ih => exact .evict hi hq hfar hlt (ih h2)

theorem fillStep_captures (c : Commissioning) (fuel : Nat) (x : RxBank) :
    Captures c x (fillStep c fuel x).2 (fillStep c fuel x).1 := by
  induction fuel generalizing x with
  | zero => exact .done x
  | succ fuel ih =>
    unfold fillStep
    split
    · next i q hi hq => exact .fill hi hq (ih _)
    · exact .done x

theorem evictStep_captures (c : Commissioning) (fuel : Nat) (x : RxBank) :
    Captures c x (evictStep c fuel x).2 (evictStep c fuel x).1 := by
  induction fuel generalizing x with
  | zero => exact .done x
  | succ fuel ih =>
    unfold evictStep
    split
    · next q far hi hq hfar =>
      split
      · next hlt => exact .evict hi hq hfar hlt (ih _)
      · exact .done x
    · exact .done x

theorem capturePolicy_captures (c : Commissioning) (x : RxBank) :
    Captures c x (capturePolicy c x).2 (capturePolicy c x).1 :=
  (fillStep_captures c _ x).append (evictStep_captures c _ _)

/-! ### What each change needs and leaves -/

theorem RxBank.idleCapture_spec (h : x.idleCapture = some i) :
    ∃ k, x.trackers[i]? = some k ∧ k.kind = some .capture ∧ k.isIdle = true := by
  obtain ⟨hi, hk, -⟩ := List.findIdx?_eq_some_iff_getElem.1 h
  rw [Bool.and_eq_true, beq_iff_eq] at hk
  exact ⟨_, List.getElem?_eq_getElem hi, hk⟩

theorem RxBank.idleCapture_eq_none : x.idleCapture = none ↔ ∀ k ∈ x.trackers, k.kind = some .capture → k.isIdle = false := by
  simp [RxBank.idleCapture, List.findIdx?_eq_none_iff]

theorem RxBank.nearestFree_spec (h : x.nearestFree c = some q) :
    q ∈ x.map.map MapEntry.pos ∧ x.eligible c q = true ∧ x.isCaptured q = false ∧
      ∀ r ∈ x.map.map MapEntry.pos, x.eligible c r = true → x.isCaptured r = false →
        distance c.position q ≤ distance c.position r := by
  obtain ⟨hmem, hmin⟩ := nearestOf_eq_some h
  obtain ⟨hq, hfree⟩ := List.mem_filter.1 hmem
  rw [Bool.and_eq_true, Bool.not_eq_true'] at hfree
  exact ⟨hq, hfree.1, hfree.2, fun r hr he hc => hmin r (List.mem_filter.2 ⟨hr, by simp [he, hc]⟩)⟩

theorem RxBank.nearestFree_eq_none (h : x.nearestFree c = none) :
    ∀ r ∈ x.map.map MapEntry.pos, x.eligible c r = true → x.isCaptured r = true := by
  intro r hr he
  by_contra hc
  have hfree : r ∈ (x.map.map MapEntry.pos).filter fun q => x.eligible c q && !x.isCaptured q :=
    List.mem_filter.2 ⟨hr, by simp [he, hc]⟩
  rw [nearestOf_eq_none.1 h] at hfree
  cases hfree

/-- The positions captured. -/
def RxBank.captures (x : RxBank) : List Nat := x.trackers.filterMap fun t => if t.kind = some .capture then t.pos else none

theorem RxBank.mem_captures : q ∈ x.captures ↔ x.isCaptured q = true := by
  simp [RxBank.captures, RxBank.isCaptured]

theorem RxBank.farthestCapture_eq (x : RxBank) (p : Nat) : x.farthestCapture p = farthestOf p x.captures := rfl

theorem RxBank.farthestCapture_spec {p : Nat} (h : x.farthestCapture p = some far) :
    x.isCaptured far = true ∧ ∀ r, x.isCaptured r = true → distance p r ≤ distance p far := by
  obtain ⟨hmem, hmax⟩ := farthestOf_eq_some (x.farthestCapture_eq p ▸ h)
  exact ⟨RxBank.mem_captures.1 hmem, fun r hr => hmax r (RxBank.mem_captures.2 hr)⟩

theorem RxBank.eligible_iff : x.eligible c q = true ↔
    (∃ e, findEntry x.map q = some e ∧ e.confirmed.alarming = true) ∧ x.isPinned q = false ∧ c.interested q = true := by
  simp [RxBank.eligible, Option.any_eq_true, and_assoc]

/-- A free eligible position is assigned to no tracker. -/
theorem RxBank.not_mem_assigned_of_free (h : ∀ k ∈ x.trackers, k.sound) (he : x.eligible c q = true)
    (hc : x.isCaptured q = false) : q ∉ x.assigned := by
  obtain ⟨-, hp, -⟩ := RxBank.eligible_iff.1 he
  rw [RxBank.mem_assigned_iff h, hp, hc]
  simp

/-- A sound tracker that is IDLE has no position. -/
theorem Tracker.sound.pos_of_idle (h : k.sound) (hi : k.isIdle = true) : k.pos = none := by
  have hidle := h.1
  rw [hi] at hidle
  exact Option.isNone_iff_eq_none.1 hidle.symm

theorem Tracker.assign_sound (q : Nat) (h : k.kind = some .capture) : (k.assign q).sound :=
  ⟨rfl, fun _ => rfl, fun hn => by cases h.symm.trans hn⟩

theorem Tracker.free_sound (h : k.kind = some .capture) : k.free.sound :=
  ⟨rfl, fun hp => absurd (h.symm.trans hp) (by decide), fun hn => absurd (h.symm.trans hn) (by decide)⟩

@[simp] theorem Tracker.assign_pos (q : Nat) (k : Tracker) : (k.assign q).pos = some q := rfl
@[simp] theorem Tracker.assign_kind (q : Nat) (k : Tracker) : (k.assign q).kind = k.kind := rfl
@[simp] theorem Tracker.free_pos (k : Tracker) : k.free.pos = none := rfl
@[simp] theorem Tracker.free_kind (k : Tracker) : k.free.kind = k.kind := rfl

theorem filterMap_modify_perm {α β : Type} {f : α → Option β} {g : α → α} {l : List α} {i : Nat} {y : α} {q : β}
    (hi : l[i]? = some y) (hy : f y = none) (hg : f (g y) = some q) :
    ((l.modify i g).filterMap f).Perm (q :: l.filterMap f) := by
  induction l generalizing i with
  | nil => simp at hi
  | cons z zs ih =>
    cases i with
    | zero =>
      cases hi
      rw [List.modify_zero_cons, List.filterMap_cons_some hg, List.filterMap_cons_none hy]
    | succ i =>
      have htail := ih (i := i) (by simpa using hi)
      rw [List.modify_succ_cons]
      cases hz : f z with
      | none =>
        rw [List.filterMap_cons_none hz, List.filterMap_cons_none hz]
        exact htail
      | some r =>
        rw [List.filterMap_cons_some hz, List.filterMap_cons_some hz]
        exact (htail.cons r).trans (.swap q r _)

theorem RxBank.assignAt_assigned (hs : ∀ k ∈ x.trackers, k.sound) (hi : x.idleCapture = some i) :
    (x.assignAt i q).assigned.Perm (q :: x.assigned) := by
  obtain ⟨k, hk, -, hidle⟩ := RxBank.idleCapture_spec hi
  exact filterMap_modify_perm hk ((hs k (List.mem_of_getElem? hk)).pos_of_idle hidle) rfl

/-- Where every tracker at a position is a CAPTURE one, evicting it replaces the position. -/
theorem filterMap_evict {l : List Tracker} (h : ∀ k ∈ l, k.pos = some far → k.kind = some .capture) :
    (l.map fun t => if t.kind = some .capture ∧ t.pos = some far then t.assign q else t).filterMap Tracker.pos =
      (l.filterMap Tracker.pos).map fun r => if r = far then q else r := by
  induction l with
  | nil => rfl
  | cons t rest ih =>
    obtain ⟨ht, hrest⟩ := List.forall_mem_cons.1 h
    rw [List.map_cons]
    cases hp : t.pos with
    | none => rw [if_neg (by simp), List.filterMap_cons_none hp, List.filterMap_cons_none hp, ih hrest]
    | some r =>
      rw [List.filterMap_cons_some hp, List.map_cons, ← ih hrest]
      by_cases hr : r = far
      · subst hr
        rw [if_pos ⟨ht hp, rfl⟩, if_pos rfl]
        rfl
      · rw [if_neg (by simp [hr]), if_neg hr, List.filterMap_cons_some hp]

theorem filterMap_free {l : List Tracker} (h : ∀ k ∈ l, k.pos = some q → k.kind = some .capture) :
    (l.map fun t => if t.kind = some .capture ∧ t.pos = some q then t.free else t).filterMap Tracker.pos =
      (l.filterMap Tracker.pos).filter (· != q) := by
  induction l with
  | nil => rfl
  | cons t rest ih =>
    obtain ⟨ht, hrest⟩ := List.forall_mem_cons.1 h
    rw [List.map_cons]
    cases hp : t.pos with
    | none => rw [if_neg (by simp), List.filterMap_cons_none hp, List.filterMap_cons_none hp, ih hrest]
    | some r =>
      rw [List.filterMap_cons_some hp, List.filter_cons, ← ih hrest]
      by_cases hr : r = q
      · subst hr
        rw [if_pos ⟨ht hp, rfl⟩, List.filterMap_cons_none (Tracker.free_pos t)]
        simp
      · rw [if_neg (by simp [hr]), List.filterMap_cons_some hp]
        simp [hr]

theorem RxBank.freeOf_assigned (hx : x.assigned.Nodup) (hq : x.isCaptured q = true) :
    (x.freeOf q).assigned = x.assigned.filter (· != q) :=
  filterMap_free fun _ hk hpos => RxBank.capture_of_pos hx hq hk hpos

/-- Replacing one entry of a list without repeats. -/
theorem map_replace_perm {l : List Nat} (hl : l.Nodup) (hfar : far ∈ l) :
    (l.map fun r => if r = far then q else r).Perm (q :: l.filter (· != far)) := by
  have hperm : l.Perm (far :: l.filter (· != far)) := by
    rw [← hl.erase_eq_filter far]
    exact List.perm_cons_erase hfar
  refine (hperm.map _).trans ?_
  rw [List.map_cons, if_pos rfl]
  have hid : (l.filter (· != far)).map (fun r => if r = far then q else r) = l.filter (· != far) := by
    refine (List.map_congr_left fun r hr => ?_).trans (List.map_id _)
    rw [if_neg (by simpa using List.of_mem_filter hr)]
    rfl
  rw [hid]

theorem RxBank.evictFor_assigned (hx : x.assigned.Nodup) (hfar : x.isCaptured far = true) :
    (x.evictFor far q).assigned.Perm (q :: x.assigned.filter (· != far)) := by
  have heq : (x.evictFor far q).assigned = x.assigned.map fun r => if r = far then q else r :=
    filterMap_evict fun _ hk hpos => RxBank.capture_of_pos hx hfar hk hpos
  rw [heq]
  obtain ⟨k, hk, -, hpos⟩ := RxBank.isCaptured_iff.1 hfar
  exact map_replace_perm hx (RxBank.mem_assigned.2 ⟨k, hk, hpos⟩)

/-! ### Pinned trackers stand -/

theorem RxBank.assignAt_kinds (x : RxBank) : (x.assignAt i q).trackers.map Tracker.kind = x.trackers.map Tracker.kind :=
  map_modify_kept fun _ _ => rfl

theorem RxBank.evictFor_kinds (x : RxBank) : (x.evictFor far q).trackers.map Tracker.kind = x.trackers.map Tracker.kind := by
  rw [RxBank.evictFor, List.map_map]
  refine List.map_congr_left fun t _ => ?_
  dsimp only [Function.comp]
  split <;> rfl

theorem RxBank.freeOf_kinds (x : RxBank) : (x.freeOf q).trackers.map Tracker.kind = x.trackers.map Tracker.kind := by
  rw [RxBank.freeOf, List.map_map]
  refine List.map_congr_left fun t _ => ?_
  dsimp only [Function.comp]
  split <;> rfl

/-- A change that leaves the trackers that are not CAPTURE ones alone. -/
structure RxBank.CapturesOnly (x y : RxBank) : Prop where
  map : y.map = x.map
  kinds : y.trackers.map Tracker.kind = x.trackers.map Tracker.kind
  pinned : ∀ (i : Nat) (k : Tracker), x.trackers[i]? = some k → k.kind ≠ some .capture → y.trackers[i]? = some k

theorem RxBank.CapturesOnly.refl (x : RxBank) : x.CapturesOnly x := ⟨rfl, rfl, fun _ _ h _ => h⟩

theorem RxBank.CapturesOnly.trans {y z : RxBank} (h1 : x.CapturesOnly y) (h2 : y.CapturesOnly z) : x.CapturesOnly z :=
  ⟨h2.map.trans h1.map, h2.kinds.trans h1.kinds, fun i k hk hn => h2.pinned i k (h1.pinned i k hk hn) hn⟩

theorem RxBank.assignAt_capturesOnly (hi : x.idleCapture = some i) : x.CapturesOnly (x.assignAt i q) := by
  refine ⟨rfl, x.assignAt_kinds, fun j k hk hn => ?_⟩
  obtain ⟨k', hk', hkind, -⟩ := RxBank.idleCapture_spec hi
  have hij : i ≠ j := fun h => hn (by cases hk'.symm.trans (h ▸ hk); exact hkind)
  simp [RxBank.assignAt, hij, hk]

theorem RxBank.evictFor_capturesOnly (x : RxBank) : x.CapturesOnly (x.evictFor far q) := by
  refine ⟨rfl, x.evictFor_kinds, fun j k hk hn => ?_⟩
  simp [RxBank.evictFor, hk, hn]

theorem RxBank.freeOf_capturesOnly (x : RxBank) : x.CapturesOnly (x.freeOf q) := by
  refine ⟨rfl, x.freeOf_kinds, fun j k hk hn => ?_⟩
  simp [RxBank.freeOf, hk, hn]

/-- What is pinned is pinned afterwards, and nothing else. -/
theorem RxBank.CapturesOnly.isPinned {y : RxBank} (h : x.CapturesOnly y) (q : Nat) : y.isPinned q = x.isPinned q := by
  have hkind (j : Nat) : y.trackers[j]?.map Tracker.kind = x.trackers[j]?.map Tracker.kind := by
    simpa using congrArg (fun l => l[j]?) h.kinds
  rw [Bool.eq_iff_iff, RxBank.isPinned_iff, RxBank.isPinned_iff]
  constructor
  · rintro ⟨k, hk, hpin, hpos⟩
    obtain ⟨j, hj⟩ := List.getElem?_of_mem hk
    obtain ⟨k', hk', hkk⟩ := Option.map_eq_some_iff.1 ((hkind j).symm.trans (congrArg (Option.map Tracker.kind) hj))
    have hstand := h.pinned j k' hk' (by rw [hkk, hpin]; simp)
    cases hj.symm.trans hstand
    exact ⟨k, List.mem_of_getElem? hk', hpin, hpos⟩
  · rintro ⟨k, hk, hpin, hpos⟩
    obtain ⟨j, hj⟩ := List.getElem?_of_mem hk
    exact ⟨k, List.mem_of_getElem? (h.pinned j k hj (by rw [hpin]; simp)), hpin, hpos⟩

theorem RxBank.CapturesOnly.eligible {y : RxBank} (h : x.CapturesOnly y) (c : Commissioning) (q : Nat) :
    y.eligible c q = x.eligible c q := by
  rw [RxBank.eligible, RxBank.eligible, h.map, h.isPinned]

theorem Captures.capturesOnly {y : RxBank} {steps : List CaptureStep} (h : Captures c x steps y) : x.CapturesOnly y := by
  induction h with
  | done x => exact .refl x
  | fill hi _ _ ih => exact (RxBank.assignAt_capturesOnly hi).trans ih
  | evict _ _ _ _ _ ih => exact (RxBank.evictFor_capturesOnly _).trans ih

/-! ### What is kept (R59) -/

theorem RxBank.distinct.assignAt (hx : x.distinct c.position b) (hi : x.idleCapture = some i)
    (he : x.eligible c q = true) (hc : x.isCaptured q = false) (hside : q ∈ sidePositions c.position b) :
    (x.assignAt i q).distinct c.position b := by
  obtain ⟨hnodup, hon, hsound⟩ := hx
  have hperm := RxBank.assignAt_assigned (q := q) hsound hi
  refine ⟨hperm.nodup_iff.2 (List.nodup_cons.2 ⟨RxBank.not_mem_assigned_of_free hsound he hc, hnodup⟩), fun r hr => ?_, ?_⟩
  · rcases List.mem_cons.1 (hperm.mem_iff.1 hr) with rfl | hr
    · exact hside
    · exact hon r hr
  · obtain ⟨k, hk, hkind, -⟩ := RxBank.idleCapture_spec hi
    intro y hy
    obtain ⟨j, hj⟩ := List.getElem?_of_mem hy
    obtain ⟨z, hz, rfl⟩ := getElem?_modify_some hj
    split
    · next hij =>
      subst hij
      cases hk.symm.trans hz
      exact Tracker.assign_sound q hkind
    · exact hsound z (List.mem_of_getElem? hz)

theorem RxBank.distinct.evictFor (hx : x.distinct c.position b) (hfar : x.isCaptured far = true)
    (he : x.eligible c q = true) (hc : x.isCaptured q = false) (hside : q ∈ sidePositions c.position b) :
    (x.evictFor far q).distinct c.position b := by
  obtain ⟨hnodup, hon, hsound⟩ := hx
  have hperm := RxBank.evictFor_assigned (q := q) hnodup hfar
  have hnew : q ∉ x.assigned.filter (· != far) := fun h =>
    RxBank.not_mem_assigned_of_free hsound he hc (List.mem_of_mem_filter h)
  refine ⟨hperm.nodup_iff.2 (List.nodup_cons.2 ⟨hnew, hnodup.filter _⟩), fun r hr => ?_, ?_⟩
  · rcases List.mem_cons.1 (hperm.mem_iff.1 hr) with rfl | hr
    · exact hside
    · exact hon r (List.mem_of_mem_filter hr)
  · refine forall_mem_map hsound fun k hk => ?_
    split
    · next h => exact Tracker.assign_sound q h.1
    · exact hk

theorem RxBank.distinct.freeOf (hx : x.distinct c.position b) (hq : x.isCaptured q = true) :
    (x.freeOf q).distinct c.position b := by
  obtain ⟨hnodup, hon, hsound⟩ := hx
  have heq := RxBank.freeOf_assigned hnodup hq
  refine ⟨heq ▸ hnodup.filter _, fun r hr => hon r (List.mem_of_mem_filter (heq ▸ hr)), ?_⟩
  refine forall_mem_map hsound fun k hk => ?_
  split
  · next h => exact Tracker.free_sound h.1
  · exact hk

theorem Captures.distinct {y : RxBank} {steps : List CaptureStep} (h : Captures c x steps y)
    (hmap : x.map.map MapEntry.pos = sidePositions c.position b) (hx : x.distinct c.position b) :
    y.distinct c.position b := by
  induction h with
  | done => exact hx
  | fill hi hq _ ih =>
    obtain ⟨hmem, he, hc, -⟩ := RxBank.nearestFree_spec hq
    exact ih hmap (hx.assignAt hi he hc (hmap ▸ hmem))
  | evict _ hq hfar _ _ ih =>
    obtain ⟨hmem, he, hc, -⟩ := RxBank.nearestFree_spec hq
    exact ih hmap (hx.evictFor (RxBank.farthestCapture_spec hfar).1 he hc (hmap ▸ hmem))

/-- Every new capture is on an eligible position (R56, R57). -/
theorem RxBank.capturesEligible.assignAt (hx : x.capturesEligible c) (hi : x.idleCapture = some i)
    (he : x.eligible c q = true) : (x.assignAt i q).capturesEligible c := by
  intro y hy hkind r hr
  rw [(RxBank.assignAt_capturesOnly hi).eligible]
  obtain ⟨j, hj⟩ := List.getElem?_of_mem hy
  obtain ⟨z, hz, rfl⟩ := getElem?_modify_some hj
  split at hr
  · cases hr
    exact he
  · next hij =>
    rw [if_neg hij] at hkind
    exact hx z (List.mem_of_getElem? hz) hkind r hr

theorem RxBank.capturesEligible.evictFor (hx : x.capturesEligible c) (he : x.eligible c q = true) :
    (x.evictFor far q).capturesEligible c := by
  intro y hy hkind r hr
  rw [x.evictFor_capturesOnly.eligible]
  obtain ⟨z, hz, rfl⟩ := List.mem_map.1 hy
  split at hr
  · cases hr
    exact he
  · next hn =>
    rw [if_neg hn] at hkind
    exact hx z hz hkind r hr

theorem Captures.capturesEligible {y : RxBank} {steps : List CaptureStep} (h : Captures c x steps y)
    (hx : x.capturesEligible c) : y.capturesEligible c := by
  induction h with
  | done => exact hx
  | fill hi hq _ ih => exact ih (hx.assignAt hi (RxBank.nearestFree_spec hq).2.1)
  | evict _ hq _ _ _ ih => exact ih (hx.evictFor (RxBank.nearestFree_spec hq).2.1)

end

end Sys2Proof.Machine
end

section
/-! The receive banks through every move (O55, O56): the trackers keep their positions but where a presence change moves the captures
or a warm restart frees them, and the neighbour records follow. -/

namespace Sys2Proof.Machine

/-! ### The two sides of a station (R34) -/

theorem mem_sidePositions {p q : Nat} {b : Bank} :
    q ∈ sidePositions p b ↔ match b with | .e => 1 ≤ q ∧ q < p | .w => p < q ∧ q ≤ Config.lastPosition := by
  cases b
  · simp only [sidePositions, List.mem_map, List.mem_range]
    exact ⟨fun ⟨i, hi, h⟩ => by omega, fun h => ⟨q - 1, by omega, by omega⟩⟩
  · simp only [sidePositions, List.mem_map, List.mem_range]
    exact ⟨fun ⟨i, hi, h⟩ => by omega, fun h => ⟨Config.lastPosition - q, by omega, by omega⟩⟩

/-- The other bank of a station. -/
def otherBank : Bank → Bank
  | .e => .w
  | .w => .e

theorem not_mem_otherSide {p q : Nat} {b : Bank} (h : q ∈ sidePositions p b) : q ∉ sidePositions p (otherBank b) := by
  cases b <;> simp only [otherBank, mem_sidePositions] at h ⊢ <;> omega

theorem eq_or_eq_otherBank (b b' : Bank) : b' = b ∨ b' = otherBank b := by
  cases b <;> cases b' <;> simp [otherBank]

section
variable {s t : State} {x y : RxBank} {c : Commissioning} {b : Bank} {q : Nat}

/-! ### What keeps a bank -/

theorem findEntry_map {f : MapEntry → MapEntry} (hf : ∀ e, (f e).pos = e.pos) (m : List MapEntry) (q : Nat) :
    findEntry (m.map f) q = (findEntry m q).map f := by
  rw [findEntry, findEntry, List.find?_map]
  congr 2
  funext e
  exact congrArg (· == q) (hf e)

/-- The trackers keep their kinds and positions, the map its entries and confirmed classes. -/
structure RxBank.Kept (x y : RxBank) : Prop where
  positions : y.map.map MapEntry.pos = x.map.map MapEntry.pos
  confirmed : ∀ q, (findEntry y.map q).map MapEntry.confirmed = (findEntry x.map q).map MapEntry.confirmed
  assignments : y.trackers.map (fun k => (k.kind, k.pos)) = x.trackers.map fun k => (k.kind, k.pos)
  sound : (∀ k ∈ x.trackers, k.sound) → ∀ k ∈ y.trackers, k.sound

theorem RxBank.Kept.refl (x : RxBank) : x.Kept x := ⟨rfl, fun _ => rfl, rfl, id⟩

theorem RxBank.Kept.assigned (h : x.Kept y) : y.assigned = x.assigned := by
  have heq (z : RxBank) : z.assigned = (z.trackers.map fun k => (k.kind, k.pos)).filterMap Prod.snd := by
    rw [RxBank.assigned, List.filterMap_map]
    rfl
  rw [heq, heq, h.assignments]

theorem RxBank.isPinned_eq (x : RxBank) (q : Nat) :
    x.isPinned q = (x.trackers.map fun k => (k.kind, k.pos)).any fun a => a.1 == some .pinned && a.2 == some q := by
  rw [RxBank.isPinned, List.any_map]
  rfl

theorem RxBank.isCaptured_eq (x : RxBank) (q : Nat) :
    x.isCaptured q = (x.trackers.map fun k => (k.kind, k.pos)).any fun a => a.1 == some .capture && a.2 == some q := by
  rw [RxBank.isCaptured, List.any_map]
  rfl

theorem RxBank.Kept.isPinned (h : x.Kept y) (q : Nat) : y.isPinned q = x.isPinned q := by
  rw [RxBank.isPinned_eq, RxBank.isPinned_eq, h.assignments]

theorem RxBank.Kept.isCaptured (h : x.Kept y) (q : Nat) : y.isCaptured q = x.isCaptured q := by
  rw [RxBank.isCaptured_eq, RxBank.isCaptured_eq, h.assignments]

theorem RxBank.alarming_eq (x : RxBank) (q : Nat) :
    (findEntry x.map q).any (fun e => e.confirmed.alarming) = ((findEntry x.map q).map MapEntry.confirmed).any Presence.alarming := by
  cases findEntry x.map q <;> rfl

theorem RxBank.Kept.eligible (h : x.Kept y) (c : Commissioning) (q : Nat) : y.eligible c q = x.eligible c q := by
  rw [RxBank.eligible, RxBank.eligible, RxBank.alarming_eq, RxBank.alarming_eq, h.confirmed, h.isPinned]

theorem RxBank.capturesEligible_iff : x.capturesEligible c ↔ ∀ q, x.isCaptured q = true → x.eligible c q = true := by
  simp only [RxBank.isCaptured_iff]
  exact ⟨fun h q ⟨k, hk, hkind, hq⟩ => h k hk hkind q hq, fun h k hk hkind q hq => h q ⟨k, hk, hkind, hq⟩⟩

theorem RxBank.Kept.capturesEligible (h : x.Kept y) (hx : x.capturesEligible c) : y.capturesEligible c := by
  rw [RxBank.capturesEligible_iff] at hx ⊢
  exact fun q hq => (h.eligible c q).trans (hx q ((h.isCaptured q).symm.trans hq))

theorem RxBank.Kept.distinct {p : Nat} (h : x.Kept y) (hx : x.distinct p b) : y.distinct p b := by
  obtain ⟨hnodup, hside, hsound⟩ := hx
  rw [RxBank.distinct, h.assigned]
  exact ⟨hnodup, hside, h.sound hsound⟩

/-- Trackers at work, and entries that keep their positions and classes. -/
theorem RxBank.Kept.of_map {f : MapEntry → MapEntry} {g : Tracker → Tracker}
    (hf : ∀ e, (f e).pos = e.pos ∧ (f e).confirmed = e.confirmed) (hg : ∀ k, Worked k (g k))
    (hmap : y.map = x.map.map f) (htr : y.trackers = x.trackers.map g) (hsound : ∀ k : Tracker, k.sound → (g k).sound) :
    x.Kept y := by
  refine ⟨?_, fun q => ?_, ?_, fun h => ?_⟩
  · rw [hmap, List.map_map]
    exact List.map_congr_left fun e _ => (hf e).1
  · rw [hmap, findEntry_map fun e => (hf e).1, Option.map_map]
    congr 1
    funext e
    exact (hf e).2
  · rw [htr, List.map_map]
    exact List.map_congr_left fun k _ => congrArg₂ Prod.mk (hg k).kind (hg k).pos
  · rw [htr]
    exact forall_mem_map h hsound

theorem Worked.sound {k k' : Tracker} (h : Worked k k') (hk : k.sound) : k'.sound := by
  obtain ⟨hidle, hpin, hnone⟩ := hk
  rcases h.idle with hi | ⟨hpos, hi⟩
  · exact ⟨by rw [hi, h.pos, hidle], fun hp => by rw [hi]; exact hpin (h.kind ▸ hp),
      fun hn => by rw [hi]; exact hnone (h.kind ▸ hn)⟩
  · refine ⟨?_, fun _ => hi, fun hn => ?_⟩
    · rw [hi, h.pos]
      cases hq : k.pos with
      | none => simp [hq] at hpos
      | some q => rfl
    · rw [hnone (h.kind ▸ hn)] at hidle
      cases hq : k.pos with
      | none => simp [hq] at hpos
      | some q => simp [hq] at hidle

theorem RxBank.enterDark_kept (x : RxBank) : x.Kept x.enterDark := by
  have hworked (k : Tracker) : Worked k (if k.isIdle then k else k.acquire) := by
    split
    · exact ⟨rfl, rfl, .inl rfl⟩
    · next h => exact ⟨rfl, rfl, .inl (by rw [Bool.not_eq_true] at h; rw [h]; rfl)⟩
  exact .of_map (f := MapEntry.darken) (fun _ => ⟨rfl, rfl⟩) hworked rfl rfl fun k => (hworked k).sound

theorem RxBank.hearClass_kept (now : Moment) (cls : LightClass) (x : RxBank) : x.Kept (x.hearClass now cls) := by
  unfold RxBank.hearClass
  split
  · exact .refl x
  · split
    · exact x.enterDark_kept
    · exact .refl x
  · split
    · exact .refl x
    · exact ⟨rfl, fun _ => rfl, rfl, id⟩
  · split
    · exact ⟨rfl, fun _ => rfl, rfl, id⟩
    · exact .refl x

theorem RxBank.wake_kept (p : Nat) (b : Bank) (now : Moment) (x : RxBank) : x.Kept (x.wake p b now) := by
  have hworked (k : Tracker) : Worked k { k with reception := .hunting } := ⟨rfl, rfl, .inl rfl⟩
  exact .of_map (f := MapEntry.wake) (fun _ => ⟨rfl, rfl⟩) hworked rfl rfl fun k => (hworked k).sound

theorem RxBank.onTracker_kept {i : Nat} {g : Tracker → Tracker} (h : ∀ k, x.trackers[i]? = some k → Worked k (g k)) :
    x.Kept (x.onTracker i g) := by
  refine ⟨rfl, fun _ => rfl, map_modify_kept fun k hk => congrArg₂ Prod.mk (h k hk).kind (h k hk).pos, fun hs k hk => ?_⟩
  obtain ⟨j, hj⟩ := List.getElem?_of_mem hk
  obtain ⟨z, hz, rfl⟩ := getElem?_modify_some hj
  split
  · next hij => exact (h z (hij ▸ hz)).sound (hs z (List.mem_of_getElem? hz))
  · exact hs z (List.mem_of_getElem? hz)

/-! ### A dwell's observation (R43) -/

theorem RxBank.moveOn_keeps (p : Nat) (b : Bank) (now : Moment) (w : Nat) (x : RxBank) :
    (x.moveOn p b now w).map = x.map ∧ (x.moveOn p b now w).trackers = x.trackers := by
  unfold RxBank.moveOn
  split <;> exact ⟨rfl, rfl⟩

theorem MapEntry.observe_pos (n : Nat) (o : Presence) (e : MapEntry) : (e.observe n o).pos = e.pos := by
  unfold MapEntry.observe
  split
  · rfl
  · split <;> rfl

/-- The entry of a position after an observation at `w`. -/
theorem RxBank.findEntry_observeAt (w : Nat) (o : Presence) (x : RxBank) (q : Nat) :
    findEntry (x.observeAt w o).map q =
      (findEntry x.map q).map fun e => if e.pos = w then e.observe x.sweep o else e :=
  findEntry_map (fun e => by split <;> simp [MapEntry.observe_pos]) _ _

theorem pos_of_findEntry {m : List MapEntry} {e : MapEntry} (h : findEntry m q = some e) : e.pos = q := by
  simpa using List.find?_some h

theorem RxBank.observeAt_positions (w : Nat) (o : Presence) (x : RxBank) :
    (x.observeAt w o).map.map MapEntry.pos = x.map.map MapEntry.pos := by
  rw [RxBank.observeAt, List.map_map]
  refine List.map_congr_left fun e _ => ?_
  dsimp only [Function.comp]
  split
  · exact e.observe_pos _ _
  · rfl

/-- Another position's entry stands. -/
theorem RxBank.findEntry_observeAt_of_ne {w : Nat} (h : q ≠ w) (o : Presence) (x : RxBank) :
    findEntry (x.observeAt w o).map q = findEntry x.map q := by
  rw [RxBank.findEntry_observeAt]
  cases he : findEntry x.map q with
  | none => rfl
  | some e => simp [pos_of_findEntry he, h]

/-- What an observation makes of the class of the position visited (R43). -/
theorem RxBank.confirmed_observeAt (w : Nat) (o : Presence) (x : RxBank) :
    (findEntry (x.observeAt w o).map w).map MapEntry.confirmed =
      if (x.confirms w o).isSome then some o else (findEntry x.map w).map MapEntry.confirmed := by
  rw [RxBank.findEntry_observeAt, RxBank.confirms]
  cases he : findEntry x.map w with
  | none => rfl
  | some e =>
    simp only [Option.map_some, pos_of_findEntry he, if_true, Option.bind_some]
    unfold MapEntry.observe
    by_cases h1 : o = e.confirmed
    · simp [h1]
    · by_cases h2 : e.pending = some o
      · simp [h1, h2]
      · simp [h1, h2]

/-- A dwell that confirms no change keeps the bank. -/
theorem RxBank.visited_kept {w : Nat} {o : Presence} {p : Nat} {now : Moment} (h : x.confirms w o = none) :
    x.Kept ((x.observeAt w o).moveOn p b now w) := by
  obtain ⟨hmap, htr⟩ := RxBank.moveOn_keeps p b now w (x.observeAt w o)
  refine ⟨?_, fun q => ?_, ?_, ?_⟩
  · rw [hmap, x.observeAt_positions]
  · rw [hmap]
    by_cases hq : q = w
    · subst hq
      rw [x.confirmed_observeAt, h]
      rfl
    · rw [x.findEntry_observeAt_of_ne hq]
  · rw [htr]
    rfl
  · rw [htr]
    exact id

/-! ### The records that follow the captures (R72, R78) -/

/-- What a capture step does to the records. -/
def CaptureStep.onRecords (now : Moment) (b : Bank) (rs : List Neighbour) : CaptureStep → List Neighbour
  | .created q => rs ++ [Neighbour.vacant now b q]
  | .removed q => rs.filter fun r => r.origin != q

/-- The same of their origins. -/
def CaptureStep.onOrigins (l : List Nat) : CaptureStep → List Nat
  | .created q => l ++ [q]
  | .removed q => l.filter (· != q)

theorem State.followCaptures_records (s : State) (b : Bank) (steps : List CaptureStep) :
    (s.followCaptures b steps).records = steps.foldl (CaptureStep.onRecords s.now b) s.records := by
  unfold State.followCaptures
  induction steps generalizing s with
  | nil => rfl
  | cons z rest ih =>
    cases z with
    | created q => exact ih (s.createRecord b q)
    | removed q => exact ih (s.removeRecord q)

theorem map_origin_onRecords (now : Moment) (b : Bank) (steps : List CaptureStep) (rs : List Neighbour) :
    (steps.foldl (CaptureStep.onRecords now b) rs).map Neighbour.origin =
      steps.foldl CaptureStep.onOrigins (rs.map Neighbour.origin) := by
  induction steps generalizing rs with
  | nil => rfl
  | cons z rest ih =>
    rw [List.foldl_cons, List.foldl_cons, ih]
    congr 1
    cases z with
    | created q => simp [CaptureStep.onRecords, CaptureStep.onOrigins, Neighbour.vacant]
    | removed q =>
      rw [CaptureStep.onRecords, CaptureStep.onOrigins, List.filter_map]
      rfl

/-- A new position among those assigned. -/
theorem append_singleton_perm {l a a' others : List Nat} (hl : l.Perm (a ++ others)) (ha : a'.Perm (q :: a)) :
    (l ++ [q]).Perm (a' ++ others) := by
  have h1 : (l ++ [q]).Perm (q :: (a ++ others)) := (List.perm_append_singleton q l).trans (hl.cons q)
  exact h1.trans (ha.symm.append_right others)

/-- A position gone from those assigned, which the other bank's do not include. -/
theorem filter_perm {l a others : List Nat} (hl : l.Perm (a ++ others)) (hq : q ∉ others) :
    (l.filter (· != q)).Perm (a.filter (· != q) ++ others) := by
  have hothers : others.filter (· != q) = others := List.filter_eq_self.2 fun r hr => by
    rw [bne_iff_ne]
    exact fun h => hq (h ▸ hr)
  have h := hl.filter (· != q)
  rw [List.filter_append, hothers] at h
  exact h

theorem Captures.origins {steps : List CaptureStep} {l others : List Nat} (h : Captures c x steps y)
    (hmap : x.map.map MapEntry.pos = sidePositions c.position b) (hx : x.distinct c.position b)
    (hothers : ∀ r ∈ others, r ∉ sidePositions c.position b) (hl : l.Perm (x.assigned ++ others)) :
    (steps.foldl CaptureStep.onOrigins l).Perm (y.assigned ++ others) := by
  induction h generalizing l with
  | done => exact hl
  | fill hi hq _ ih =>
    obtain ⟨hmem, he, hc, -⟩ := RxBank.nearestFree_spec hq
    exact ih hmap (hx.assignAt hi he hc (hmap ▸ hmem)) (append_singleton_perm hl (RxBank.assignAt_assigned hx.2.2 hi))
  | evict _ hq hfar _ _ ih =>
    obtain ⟨hmem, he, hc, -⟩ := RxBank.nearestFree_spec hq
    have hcap := (RxBank.farthestCapture_spec hfar).1
    obtain ⟨k, hk, -, hpos⟩ := RxBank.isCaptured_iff.1 hcap
    have hside := hx.2.1 _ (RxBank.mem_assigned.2 ⟨k, hk, hpos⟩)
    refine ih hmap (hx.evictFor hcap he hc (hmap ▸ hmem)) ?_
    exact append_singleton_perm (filter_perm hl fun h => hothers _ h hside) (RxBank.evictFor_assigned hx.1 hcap)

/-! ### A presence-change event (R44, R57, R58) -/

/-- The bank with the capture of a position that no longer alarms released (R58). -/
def RxBank.lettingGo (q : Nat) (new : Presence) (x : RxBank) : RxBank × List CaptureStep :=
  if new.alarming then (x, []) else x.releaseCapture q

theorem RxBank.lettingGo_cases (q : Nat) (new : Presence) (x : RxBank) :
    x.lettingGo q new = (x, []) ∧ (new.alarming = true ∨ x.isCaptured q = false) ∨
      x.lettingGo q new = (x.freeOf q, [.removed q]) ∧ new.alarming = false ∧ x.isCaptured q = true := by
  rw [RxBank.lettingGo, RxBank.releaseCapture_eq]
  cases new.alarming <;> cases x.isCaptured q <;> simp

theorem RxBank.recapture_captures (c : Commissioning) (q : Nat) (new : Presence) (x : RxBank) :
    ∃ steps, (x.recapture c q new).2 = (x.lettingGo q new).2 ++ steps ∧
      Captures c (x.lettingGo q new).1 steps (x.recapture c q new).1 :=
  ⟨_, rfl, capturePolicy_captures c _⟩

theorem RxBank.lettingGo_map (q : Nat) (new : Presence) (x : RxBank) : (x.lettingGo q new).1.map = x.map := by
  rcases x.lettingGo_cases q new with ⟨h, -⟩ | ⟨h, -⟩ <;> rw [h]
  rfl

theorem RxBank.distinct.lettingGo (hx : x.distinct c.position b) (q : Nat) (new : Presence) :
    (x.lettingGo q new).1.distinct c.position b := by
  rcases x.lettingGo_cases q new with ⟨h, -⟩ | ⟨h, -, hc⟩ <;> rw [h]
  · exact hx
  · exact hx.freeOf hc

theorem RxBank.recapture_map (c : Commissioning) (q : Nat) (new : Presence) (x : RxBank) :
    (x.recapture c q new).1.map = x.map := by
  obtain ⟨steps, -, hcap⟩ := x.recapture_captures c q new
  rw [hcap.capturesOnly.map, x.lettingGo_map]

theorem RxBank.distinct.recapture (hmap : x.map.map MapEntry.pos = sidePositions c.position b)
    (hx : x.distinct c.position b) (q : Nat) (new : Presence) : (x.recapture c q new).1.distinct c.position b := by
  obtain ⟨steps, -, hcap⟩ := x.recapture_captures c q new
  exact hcap.distinct (by rw [x.lettingGo_map]; exact hmap) (hx.lettingGo q new)

theorem RxBank.recapture_origins {l others : List Nat} (hmap : x.map.map MapEntry.pos = sidePositions c.position b)
    (hx : x.distinct c.position b) (q : Nat) (new : Presence)
    (hothers : ∀ r ∈ others, r ∉ sidePositions c.position b) (hl : l.Perm (x.assigned ++ others)) :
    ((x.recapture c q new).2.foldl CaptureStep.onOrigins l).Perm ((x.recapture c q new).1.assigned ++ others) := by
  obtain ⟨steps, hsteps, hcap⟩ := x.recapture_captures c q new
  rw [hsteps, List.foldl_append]
  refine hcap.origins (by rw [x.lettingGo_map]; exact hmap) (hx.lettingGo q new) hothers ?_
  rcases x.lettingGo_cases q new with ⟨h, -⟩ | ⟨h, -, hc⟩ <;> rw [h]
  · exact hl
  · obtain ⟨k, hk, -, hpos⟩ := RxBank.isCaptured_iff.1 hc
    have hside := hx.2.1 _ (RxBank.mem_assigned.2 ⟨k, hk, hpos⟩)
    rw [RxBank.freeOf_assigned hx.1 hc]
    exact filter_perm hl fun h => hothers _ h hside

/-- Releasing the capture of the position whose class has changed leaves every capture eligible (R58). -/
theorem RxBank.capturesEligible.lettingGo {w : Nat} {o : Presence} {p : Nat} {now : Moment} (hx : x.capturesEligible c)
    (hc : (x.confirms w o).isSome = true) :
    ((((x.observeAt w o).moveOn p b now w).lettingGo w o).1).capturesEligible c := by
  obtain ⟨hmap, htr⟩ := RxBank.moveOn_keeps p b now w (x.observeAt w o)
  set z := (x.observeAt w o).moveOn p b now w with hz
  have htr' : z.trackers = x.trackers := htr
  have hpin (r : Nat) : z.isPinned r = x.isPinned r := by rw [RxBank.isPinned, htr', RxBank.isPinned]
  have hcapt (r : Nat) : z.isCaptured r = x.isCaptured r := by rw [RxBank.isCaptured, htr', RxBank.isCaptured]
  have hother (r : Nat) (hr : r ≠ w) : z.eligible c r = x.eligible c r := by
    rw [RxBank.eligible, RxBank.eligible, hmap, x.findEntry_observeAt_of_ne hr, hpin]
  have hhere (h : x.eligible c w = true) (ho : o.alarming = true) : z.eligible c w = true := by
    obtain ⟨-, hp, hi⟩ := RxBank.eligible_iff.1 h
    rw [RxBank.eligible, RxBank.alarming_eq, hmap, x.confirmed_observeAt, hc, hpin, hp, hi]
    simp [ho]
  rw [RxBank.capturesEligible_iff] at hx
  rcases z.lettingGo_cases w o with ⟨h, hor⟩ | ⟨h, -, -⟩ <;> rw [h, RxBank.capturesEligible_iff]
  · intro r hr
    by_cases hrw : r = w
    · subst hrw
      rcases hor with ho | hnot
      · exact hhere (hx r (hcapt r ▸ hr)) ho
      · cases hr.symm.trans hnot
    · exact (hother r hrw).trans (hx r (hcapt r ▸ hr))
  · intro r hr
    obtain ⟨k, hk, hkind, hpos⟩ := RxBank.isCaptured_iff.1 hr
    obtain ⟨k', hk', rfl⟩ := List.mem_map.1 hk
    rw [z.freeOf_capturesOnly.eligible]
    split at hpos
    · cases hpos
    · next hn =>
      rw [if_neg hn] at hkind
      have hrw : r ≠ w := fun h => hn ⟨hkind, h ▸ hpos⟩
      rw [hother r hrw]
      refine hx r (hcapt r ▸ RxBank.isCaptured_iff.2 ⟨k', hk', hkind, hpos⟩)

theorem State.presenceChange_bank (s : State) (b : Bank) (q : Nat) (old new : Presence) :
    (s.presenceChange b q old new).bank b = ((s.bank b).recapture s.cfg q new).1 := by
  cases b <;> simp [State.presenceChange, State.bank]

theorem State.presenceChange_otherBank (s : State) (b : Bank) (q : Nat) (old new : Presence) :
    (s.presenceChange b q old new).bank (otherBank b) = s.bank (otherBank b) := by
  cases b <;> simp [State.presenceChange, State.bank, otherBank]

theorem State.presenceChange_records (s : State) (b : Bank) (q : Nat) (old new : Presence) :
    (s.presenceChange b q old new).records =
      ((s.bank b).recapture s.cfg q new).2.foldl (CaptureStep.onRecords s.now b) s.records := by
  simp [State.presenceChange, State.followCaptures_records]

theorem State.visited_bank (s : State) (b : Bank) (w : Dwell) (o : Presence) :
    (s.visited b w o).bank b = ((s.bank b).observeAt w.pos o).moveOn s.cfg.position b w.ends w.pos := by
  simp [State.visited]

theorem State.visited_otherBank (s : State) (b : Bank) (w : Dwell) (o : Presence) :
    (s.visited b w o).bank (otherBank b) = s.bank (otherBank b) := by
  cases b <;> rfl

@[simp] theorem State.visited_cfg (s : State) (b : Bank) (w : Dwell) (o : Presence) : (s.visited b w o).cfg = s.cfg := by
  rw [State.visited, State.setBank_cfg]
  rfl

@[simp] theorem State.visited_records (s : State) (b : Bank) (w : Dwell) (o : Presence) :
    (s.visited b w o).records = s.records := by
  rw [State.visited, State.setBank_records]
  rfl

/-! ### Starts and warm restarts (R35, R47, R55, R66) -/

theorem RxBank.fromClass_positions (p : Nat) (b : Bank) (now : Moment) (dark : Bool) (x : RxBank) :
    (x.fromClass p b now dark).map.map MapEntry.pos = sidePositions p b := by
  have hreset : ((sidePositions p b).map MapEntry.reset).map MapEntry.pos = sidePositions p b := by
    rw [List.map_map]
    exact List.map_id _
  unfold RxBank.fromClass
  cases dark
  · exact hreset
  · simp only [if_true, List.map_map]
    exact List.map_id _

theorem RxBank.fromClass_trackers (p : Nat) (b : Bank) (now : Moment) (dark : Bool) (x : RxBank) :
    (x.fromClass p b now dark).trackers = x.trackers := by
  unfold RxBank.fromClass
  cases dark <;> rfl

/-- The positions of the pinned trackers. -/
def RxBank.pins (x : RxBank) : List Nat := x.trackers.filterMap fun k => if k.kind = some .pinned then k.pos else none

theorem RxBank.pinnedRecords_origins (now : Moment) (b : Bank) (x : RxBank) :
    (x.pinnedRecords now b).map Neighbour.origin = x.pins := by
  rw [RxBank.pinnedRecords, RxBank.pins, List.map_filterMap]
  congr 1
  funext k
  split
  · cases k.pos <;> rfl
  · rfl

/-- Where no tracker but a pinned one has a position, those are all that are assigned. -/
theorem filterMap_pos_eq_pins {l : List Tracker} (h : ∀ k ∈ l, k.kind ≠ some .pinned → k.pos = none) :
    l.filterMap Tracker.pos = l.filterMap fun k => if k.kind = some .pinned then k.pos else none := by
  refine List.filterMap_congr fun k hk => ?_
  split
  · rfl
  · next hn => exact h k hk hn

theorem Tracker.warm_sound (k : Tracker) (h : k.sound) : k.warm.sound := by
  unfold Tracker.warm
  split
  · next hkind =>
    obtain ⟨hidle, hpin, -⟩ := h
    rw [hpin hkind] at hidle
    exact ⟨hidle, fun _ => rfl, fun hn => absurd (hkind.symm.trans hn) (by decide)⟩
  · next hn => exact ⟨rfl, fun hp => absurd hp hn, fun _ => rfl⟩

theorem Tracker.warm_pos (k : Tracker) : k.warm.pos = if k.kind = some .pinned then k.pos else none := by
  unfold Tracker.warm
  split
  · next h => rw [if_pos h]; rfl
  · next h => rw [if_neg h]; rfl

theorem Tracker.warm_kind (k : Tracker) : k.warm.kind = k.kind := by
  unfold Tracker.warm
  split <;> rfl

theorem RxBank.warm_trackers (c : Commissioning) (b : Bank) (now : Moment) (l : Lmu) (x : RxBank) :
    (x.warm c b now l).trackers = x.trackers.map Tracker.warm := by
  unfold RxBank.warm
  split
  · rfl
  · rw [RxBank.fromClass_trackers]

theorem RxBank.warm_positions (c : Commissioning) (b : Bank) (now : Moment) (l : Lmu) (x : RxBank)
    (h : x.map.map MapEntry.pos = sidePositions c.position b) :
    (x.warm c b now l).map.map MapEntry.pos = sidePositions c.position b := by
  unfold RxBank.warm
  split
  · exact h
  · exact RxBank.fromClass_positions ..

theorem RxBank.warm_assigned (c : Commissioning) (b : Bank) (now : Moment) (l : Lmu) (x : RxBank) :
    (x.warm c b now l).assigned = x.pins ∧ (x.warm c b now l).pins = x.pins := by
  have hpos (k : Tracker) : k.warm.pos = if k.kind = some .pinned then k.pos else none := k.warm_pos
  unfold RxBank.assigned RxBank.pins
  simp only [RxBank.warm_trackers, List.filterMap_map]
  refine ⟨List.filterMap_congr fun k _ => hpos k, List.filterMap_congr fun k _ => ?_⟩
  dsimp only [Function.comp]
  rw [Tracker.warm_kind, hpos]
  split <;> rfl

theorem RxBank.pins_sublist (x : RxBank) : x.pins.Sublist x.assigned := by
  unfold RxBank.pins RxBank.assigned
  induction x.trackers with
  | nil => exact .slnil
  | cons k rest ih =>
    rw [List.filterMap_cons, List.filterMap_cons]
    by_cases hk : k.kind = some .pinned
    · rw [if_pos hk]
      cases k.pos with
      | none => exact ih
      | some q => exact ih.cons_cons q
    · rw [if_neg hk]
      cases k.pos with
      | none => exact ih
      | some q => exact ih.cons q

theorem RxBank.distinct.warm (hx : x.distinct c.position b) (now : Moment) (l : Lmu) :
    (x.warm c b now l).distinct c.position b := by
  obtain ⟨hnodup, hside, hsound⟩ := hx
  rw [RxBank.distinct, (x.warm_assigned c b now l).1, RxBank.warm_trackers]
  exact ⟨hnodup.sublist x.pins_sublist, fun q hq => hside q (x.pins_sublist.subset hq),
    forall_mem_map hsound fun k => k.warm_sound⟩

/-- No position is captured where every tracker that has one is pinned. -/
theorem RxBank.capturesEligible_of_pins (h : ∀ k ∈ x.trackers, k.kind = some .capture → k.pos = none) :
    x.capturesEligible c := fun k hk hkind q hq => by cases (h k hk hkind).symm.trans hq

theorem RxBank.warm_capturesEligible (c : Commissioning) (b : Bank) (now : Moment) (l : Lmu) (x : RxBank) :
    (x.warm c b now l).capturesEligible c := by
  refine RxBank.capturesEligible_of_pins ?_
  rw [RxBank.warm_trackers]
  intro k hk hkind
  obtain ⟨k', -, rfl⟩ := List.mem_map.1 hk
  rw [Tracker.warm_kind] at hkind
  rw [Tracker.warm_pos, hkind]
  rfl

/-- The pinned positions are on the bank's side, each once (R55). -/
theorem pinnedPositions_spec (c : Commissioning) (b : Bank) :
    (pinnedPositions c b).Nodup ∧ ∀ q ∈ pinnedPositions c b, q ∈ sidePositions c.position b := by
  have hfold (l kept : List Nat) (h : kept.Nodup ∧ ∀ q ∈ kept, q ∈ sidePositions c.position b) :
      (l.foldl (fun kept q => if pinnable c b q && !kept.contains q then kept ++ [q] else kept) kept).Nodup ∧
        ∀ q ∈ l.foldl (fun kept q => if pinnable c b q && !kept.contains q then kept ++ [q] else kept) kept,
          q ∈ sidePositions c.position b := by
    induction l generalizing kept with
    | nil => exact h
    | cons r rest ih =>
      refine ih _ ?_
      dsimp only
      split
      · next hr =>
        rw [Bool.and_eq_true] at hr
        obtain ⟨hpin, hnew⟩ := hr
        have hside : r ∈ sidePositions c.position b := by
          unfold pinnable at hpin
          simp only [Bool.and_eq_true, List.contains_iff_mem] at hpin
          exact hpin.1.1.2
        refine ⟨h.1.append (List.nodup_singleton r) (by simpa using hnew), fun q hq => ?_⟩
        rcases List.mem_append.1 hq with hq | hq
        · exact h.2 q hq
        · rw [List.mem_singleton.1 hq]
          exact hside
      · exact h
  exact hfold _ [] ⟨List.nodup_nil, nofun⟩

theorem Tracker.start_spec (pinned : List Nat) (i : Nat) :
    (Tracker.start pinned i).pos = pinned[i]? ∧
      (Tracker.start pinned i).kind = (if pinned[i]?.isSome then some .pinned else some .capture) ∧
      (Tracker.start pinned i).sound := by
  unfold Tracker.start
  split
  · next q h => exact ⟨h.symm, by rw [h]; rfl, rfl, fun _ => rfl, nofun⟩
  · next h => exact ⟨h.symm, by rw [h]; rfl, rfl, nofun, nofun⟩

theorem RxBank.start_spec (c : Commissioning) (b : Bank) (now : Moment) (l : Lmu) (x : RxBank) :
    (x.start c b now l).map.map MapEntry.pos = sidePositions c.position b ∧
      ∃ count, (x.start c b now l).trackers = (List.range count).map (Tracker.start (pinnedPositions c b)) := by
  unfold RxBank.start
  split
  · exact ⟨by rw [List.map_map]; exact List.map_id _, 0, rfl⟩
  · exact ⟨RxBank.fromClass_positions .., _, RxBank.fromClass_trackers ..⟩

theorem filterMap_range_getElem? {α : Type} (l : List α) (n : Nat) :
    (List.range n).filterMap (fun i => l[i]?) = l.take n := by
  induction n with
  | zero => simp
  | succ n ih =>
    rw [List.range_succ, List.filterMap_append, ih]
    cases h : l[n]? with
    | none =>
      rw [List.filterMap_cons_none h, List.filterMap_nil, List.append_nil,
        List.take_of_length_le (List.getElem?_eq_none_iff.1 h),
        List.take_of_length_le ((List.getElem?_eq_none_iff.1 h).trans (Nat.le_succ n))]
    | some z =>
      rw [List.filterMap_cons_some h, List.filterMap_nil]
      exact (List.take_concat_get' l n (List.getElem?_eq_some_iff.1 h).1 ▸ by
        rw [(List.getElem?_eq_some_iff.1 h).2])

/-- The trackers that a bank starts with. -/
theorem RxBank.started_spec {count : Nat} (h : x.trackers = (List.range count).map (Tracker.start (pinnedPositions c b))) :
    x.distinct c.position b ∧ x.pins = x.assigned ∧ x.capturesEligible c := by
  obtain ⟨hnodup, hside⟩ := pinnedPositions_spec c b
  have hassigned : x.assigned = (pinnedPositions c b).take count := by
    rw [RxBank.assigned, h, List.filterMap_map, ← filterMap_range_getElem?]
    exact List.filterMap_congr fun i _ => (Tracker.start_spec _ i).1
  have hfree (k : Tracker) (hk : k ∈ x.trackers) (hkind : k.kind ≠ some .pinned) : k.pos = none := by
    rw [h] at hk
    obtain ⟨i, -, rfl⟩ := List.mem_map.1 hk
    obtain ⟨hpos, hk, -⟩ := Tracker.start_spec (pinnedPositions c b) i
    rw [hpos]
    cases hq : (pinnedPositions c b)[i]? with
    | none => rfl
    | some q => simp [hq, hk] at hkind
  refine ⟨⟨?_, fun q hq => hside q ?_, fun k hk => ?_⟩, (filterMap_pos_eq_pins hfree).symm, ?_⟩
  · exact hassigned ▸ hnodup.sublist (List.take_sublist ..)
  · exact List.mem_of_mem_take (hassigned ▸ hq)
  · rw [h] at hk
    obtain ⟨i, -, rfl⟩ := List.mem_map.1 hk
    exact (Tracker.start_spec _ i).2.2
  · exact RxBank.capturesEligible_of_pins fun k hk hkind => hfree k hk (by rw [hkind]; decide)

/-! ### The moves -/

/-- A class-change event reaches the bank whose supervisory input it is (R14, R36). -/
theorem State.deliverClass_bank (s : State) (ev : ClassChange) (b : Bank) :
    (s.deliverClass ev).bank b =
      if ev.amp = s.cfg.supAmp b then (s.bank b).hearClass s.now ev.new else s.bank b := by
  have hcases : s.deliverClass ev =
      { s with
        flt := s.flt.classChange s.cfg s.cfl.clock ev
        rbe := if ev.amp = s.cfg.supAmp .e then s.rbe.hearClass s.now ev.new else s.rbe
        rbw := if ev.amp = s.cfg.supAmp .w then s.rbw.hearClass s.now ev.new else s.rbw } := by
    unfold State.deliverClass
    dsimp only
    split <;> split <;> rfl
  rw [hcases]
  cases b <;> rfl

/-- A move keeps both banks and the records' origins, or is a presence change, or a warm restart. -/
theorem Move.banks (h : Move s t) :
    ((∀ b, (s.bank b).Kept (t.bank b)) ∧ t.records.map Neighbour.origin = s.records.map Neighbour.origin) ∨
      (∃ b w o old, (s.bank b).confirms w.pos o = some old ∧ t = (s.visited b w o).presenceChange b w.pos old o) ∨
        t = s.warmRestart := by
  have hsame (hb : ∀ b, t.bank b = s.bank b) (hr : t.records = s.records) :
      (∀ b, (s.bank b).Kept (t.bank b)) ∧ t.records.map Neighbour.origin = s.records.map Neighbour.origin :=
    ⟨fun b => by rw [hb]; exact .refl _, by rw [hr]⟩
  have hone (b : Bank) (hb : (s.bank b).Kept (t.bank b)) (ho : t.bank (otherBank b) = s.bank (otherBank b))
      (hr : t.records = s.records) :
      (∀ b, (s.bank b).Kept (t.bank b)) ∧ t.records.map Neighbour.origin = s.records.map Neighbour.origin := by
    refine ⟨fun b' => ?_, by rw [hr]⟩
    rcases eq_or_eq_otherBank b b' with rfl | rfl
    · exact hb
    · rw [ho]
      exact .refl _
  cases h
  case aside h => exact .inl (hsame (fun b => by cases b; exact h.rbe; exact h.rbw) h.records)
  case classChange ev =>
    refine .inl ⟨fun b => ?_, by rw [State.deliverClass_records]⟩
    rw [State.deliverClass_bank]
    split
    · exact RxBank.hearClass_kept ..
    · exact .refl _
  case tracker b i g h =>
    refine .inl (hone b ?_ (by cases b <;> rfl) (State.onTracker_records ..))
    rw [State.onTracker_bank]
    exact RxBank.onTracker_kept h
  case wake b now =>
    refine .inl (hone b ?_ (by cases b <;> rfl) (State.setBank_records ..))
    rw [State.setBank_bank]
    exact RxBank.wake_kept ..
  case visit b w o h =>
    refine .inl (hone b ?_ (State.visited_otherBank ..) (State.visited_records ..))
    rw [State.visited_bank]
    exact RxBank.visited_kept h
  case presence b w o old h => exact .inr (.inl ⟨b, w, o, old, h, rfl⟩)
  case updateRecord q g hg =>
    refine .inl ⟨fun b => .refl _, ?_⟩
    show (Machine.updateRecord q g s.records).map Neighbour.origin = s.records.map Neighbour.origin
    rw [Machine.updateRecord, List.map_map]
    refine List.map_congr_left fun r _ => ?_
    dsimp only [Function.comp]
    split
    · exact hg r
    · rfl
  case restart => exact .inr (.inr rfl)
  all_goals exact .inl (hsame (fun b => by cases b <;> rfl) rfl)

end

/-! ### The banks of a state -/

section
variable {s t : State}

theorem trackersDistinct_iff : TrackersDistinct s ↔ ∀ b, (s.bank b).distinct s.cfg.position b :=
  ⟨fun ⟨he, hw⟩ b => by cases b; exact he; exact hw, fun h => ⟨h .e, h .w⟩⟩

theorem mapsWhole_iff : MapsWhole s ↔
    (s.cfl.valid = true → ∀ b, (s.bank b).map.map MapEntry.pos = sidePositions s.cfg.position b) :=
  imp_congr_right fun _ => ⟨fun ⟨he, hw⟩ b => by cases b; exact he; exact hw, fun h => ⟨h .e, h .w⟩⟩

theorem capturesEligible_iff : CapturesEligible s ↔ ∀ b, (s.bank b).capturesEligible s.cfg :=
  ⟨fun ⟨he, hw⟩ b => by cases b; exact he; exact hw, fun h => ⟨h .e, h .w⟩⟩

/-- The positions assigned in both banks, those of bank `b` first. -/
theorem recordsFollow_iff (b : Bank) : RecordsFollow s ↔
    (s.records.map Neighbour.origin).Perm ((s.bank b).assigned ++ (s.bank (otherBank b)).assigned) := by
  cases b
  · rfl
  · exact ⟨fun h => h.trans List.perm_append_comm, fun h => h.trans List.perm_append_comm⟩

theorem State.warmRestart_bank (s : State) (b : Bank) :
    s.warmRestart.bank b = (s.bank b).warm s.cfg b s.now s.lmu := by cases b <;> rfl

theorem State.declare_bank (s : State) (raw : Readings) (b : Bank) :
    (s.declare raw).bank b =
      (s.bank b).start s.cfg b s.now { s.lmu.firstSet s.cfg raw with epoch := some (s.now + Config.sampleEpoch) } := by
  cases b <;> rfl

/-- The map after a dwell has the positions it had. -/
theorem State.visited_positions (s : State) (b : Bank) (w : Dwell) (o : Presence) :
    ((s.visited b w o).bank b).map.map MapEntry.pos = (s.bank b).map.map MapEntry.pos := by
  rw [State.visited_bank, (RxBank.moveOn_keeps ..).1, RxBank.observeAt_positions]

theorem State.visited_distinct {b : Bank} (w : Dwell) (o : Presence) {p : Nat} (h : (s.bank b).distinct p b) :
    ((s.visited b w o).bank b).distinct p b := by
  rw [State.visited_bank, RxBank.distinct, RxBank.assigned, (RxBank.moveOn_keeps ..).2]
  exact h

theorem Move.mapsWhole (h : Move s t) (hs : MapsWhole s) : MapsWhole t := by
  rw [mapsWhole_iff] at hs ⊢
  rw [h.valid, h.cfg]
  intro hv b
  rcases h.banks with ⟨hkept, -⟩ | ⟨b', w, o, old, -, rfl⟩ | rfl
  · exact (hkept b).positions.trans (hs hv b)
  · rcases eq_or_eq_otherBank b' b with rfl | rfl
    · rw [State.presenceChange_bank, RxBank.recapture_map, s.visited_positions]
      exact hs hv _
    · rw [State.presenceChange_otherBank, State.visited_otherBank]
      exact hs hv _
  · rw [State.warmRestart_bank]
    exact RxBank.warm_positions _ _ _ _ _ (hs hv b)

theorem Move.trackersDistinct (h : Move s t) (hv : s.cfl.valid = true) (hm : MapsWhole s) (hs : TrackersDistinct s) :
    TrackersDistinct t := by
  rw [trackersDistinct_iff] at hs ⊢
  rw [h.cfg]
  intro b
  rcases h.banks with ⟨hkept, -⟩ | ⟨b', w, o, old, -, rfl⟩ | rfl
  · exact (hkept b).distinct (hs b)
  · rcases eq_or_eq_otherBank b' b with rfl | rfl
    · rw [State.presenceChange_bank, State.visited_cfg]
      refine RxBank.distinct.recapture ?_ (State.visited_distinct w o (hs _)) _ _
      rw [s.visited_positions]
      exact mapsWhole_iff.1 hm hv _
    · rw [State.presenceChange_otherBank, State.visited_otherBank]
      exact hs _
  · rw [State.warmRestart_bank]
    exact (hs b).warm _ _

theorem Move.capturesEligible (h : Move s t) (hs : CapturesEligible s) : CapturesEligible t := by
  rw [capturesEligible_iff] at hs ⊢
  rw [h.cfg]
  intro b
  rcases h.banks with ⟨hkept, -⟩ | ⟨b', w, o, old, hc, rfl⟩ | rfl
  · exact (hkept b).capturesEligible (hs b)
  · rcases eq_or_eq_otherBank b' b with rfl | rfl
    · rw [State.presenceChange_bank, State.visited_cfg, State.visited_bank]
      obtain ⟨steps, -, hcap⟩ := RxBank.recapture_captures s.cfg w.pos o
        (((s.bank b).observeAt w.pos o).moveOn s.cfg.position b w.ends w.pos)
      exact hcap.capturesEligible ((hs b).lettingGo (by rw [hc]; rfl))
    · rw [State.presenceChange_otherBank, State.visited_otherBank]
      exact hs _
  · rw [State.warmRestart_bank]
    exact RxBank.warm_capturesEligible _ _ _ _ _

theorem Move.recordsFollow (h : Move s t) (hv : s.cfl.valid = true) (hm : MapsWhole s) (hd : TrackersDistinct s)
    (hs : RecordsFollow s) : RecordsFollow t := by
  rw [trackersDistinct_iff] at hd
  rcases h.banks with ⟨hkept, hr⟩ | ⟨b, w, o, old, -, rfl⟩ | rfl
  · rw [recordsFollow_iff .e, hr, (hkept _).assigned, (hkept _).assigned]
    exact (recordsFollow_iff .e).1 hs
  · rw [recordsFollow_iff b, State.presenceChange_bank, State.presenceChange_otherBank, State.visited_otherBank,
      State.presenceChange_records, map_origin_onRecords, State.visited_records, State.visited_cfg]
    refine RxBank.recapture_origins ?_ (State.visited_distinct w o (hd b)) _ _ (fun r hr hside => ?_) ?_
    · rw [s.visited_positions]
      exact mapsWhole_iff.1 hm hv b
    · exact not_mem_otherSide hside ((hd (otherBank b)).2.1 r hr)
    · rw [State.visited_bank, RxBank.assigned, (RxBank.moveOn_keeps ..).2]
      exact (recordsFollow_iff b).1 hs
  · rw [recordsFollow_iff .e, State.warmRestart_bank, (RxBank.warm_assigned ..).1]
    show ((_ ++ _ : List Neighbour).map Neighbour.origin).Perm (_ ++ (s.warmRestart.bank .w).assigned)
    rw [State.warmRestart_bank, (RxBank.warm_assigned ..).1, List.map_append, RxBank.pinnedRecords_origins,
      RxBank.pinnedRecords_origins, (RxBank.warm_assigned ..).2, (RxBank.warm_assigned ..).2]
    exact .refl _

/-- A cold bank has assigned nothing. -/
theorem RxBank.cold_spec (p : Nat) (b : Bank) (c : Commissioning) :
    RxBank.cold.distinct p b ∧ RxBank.cold.capturesEligible c ∧ RxBank.cold.assigned = [] := by
  have hassigned : RxBank.cold.assigned = [] := rfl
  have htr (k : Tracker) (hk : k ∈ RxBank.cold.trackers) : k = Tracker.cold := List.eq_of_mem_replicate hk
  refine ⟨⟨hassigned ▸ List.nodup_nil, hassigned ▸ nofun, fun k hk => ?_⟩, fun k hk hkind => ?_, hassigned⟩
  · rw [htr k hk]
    exact ⟨rfl, nofun, fun _ => rfl⟩
  · rw [htr k hk] at hkind
    cases hkind

theorem State.declare_banks (s : State) (raw : Readings) :
    MapsWhole (s.declare raw) ∧ TrackersDistinct (s.declare raw) ∧ CapturesEligible (s.declare raw) ∧
      RecordsFollow (s.declare raw) := by
  have hstart (b : Bank) := RxBank.start_spec s.cfg b s.now
    { s.lmu.firstSet s.cfg raw with epoch := some (s.now + Config.sampleEpoch) } (s.bank b)
  have hcfg : (s.declare raw).cfg = s.cfg := rfl
  refine ⟨mapsWhole_iff.2 fun _ b => ?_, trackersDistinct_iff.2 fun b => ?_, capturesEligible_iff.2 fun b => ?_,
    (recordsFollow_iff .e).2 ?_⟩
  · rw [State.declare_bank, hcfg]
    exact (hstart b).1
  · rw [State.declare_bank, hcfg]
    obtain ⟨count, htr⟩ := (hstart b).2
    exact (RxBank.started_spec htr).1
  · rw [State.declare_bank, hcfg]
    obtain ⟨count, htr⟩ := (hstart b).2
    exact (RxBank.started_spec htr).2.2
  · have hpins (b : Bank) : ((s.declare raw).bank b).pins = ((s.declare raw).bank b).assigned := by
      rw [State.declare_bank]
      obtain ⟨count, htr⟩ := (hstart b).2
      exact (RxBank.started_spec htr).2.1
    show (((s.declare raw).bank .e).pinnedRecords s.now .e ++
      ((s.declare raw).bank .w).pinnedRecords s.now .w |>.map Neighbour.origin).Perm _
    rw [List.map_append, RxBank.pinnedRecords_origins, RxBank.pinnedRecords_origins, hpins, hpins]
    exact .refl _

theorem State.untouched.banks (h : s.untouched) : TrackersDistinct s ∧ CapturesEligible s ∧ RecordsFollow s := by
  refine ⟨trackersDistinct_iff.2 fun b => ?_, capturesEligible_iff.2 fun b => ?_, (recordsFollow_iff .e).2 ?_⟩
  · rw [h.bank_eq]
    exact (RxBank.cold_spec _ b s.cfg).1
  · rw [h.bank_eq]
    exact (RxBank.cold_spec 0 b _).2.1
  · have hrecords : s.records = [] := h.2.2.2.2.2.1
    rw [h.bank_eq, h.bank_eq, hrecords]
    exact .refl _

end

/-- Settles O55: a new capture is on an eligible position of the bank's side that is free, every other operation leaves the
positions assigned as they are or takes some away, and the capture on a position that no longer alarms is released first. -/
theorem everyStepKeepsTheTrackersDistinct : Obligations.EveryStepKeepsTheTrackersDistinct := by
  intro s t hl hm hd h
  have hkept : MapsWhole t ∧ TrackersDistinct t := by
    refine step_keeps (P := fun u => MapsWhole u ∧ TrackersDistinct u)
      (fun u hu hv => ⟨fun h => absurd (hv.symm.trans h) (by decide), hu.banks.1⟩)
      (fun u raw _ _ => ⟨(u.declare_banks raw).1, (u.declare_banks raw).2.1⟩)
      (fun u v hv _ hmove hu => ⟨hmove.mapsWhole hu.1, hmove.trackersDistinct hv hu.1 hu.2⟩) hl ⟨hm, hd⟩ h
  refine ⟨hkept.1, hkept.2, fun he => ?_⟩
  exact step_keeps (P := CapturesEligible) (fun u hu _ => hu.banks.2.1) (fun u raw _ _ => (u.declare_banks raw).2.2.1)
    (fun u v _ _ hmove hu => hmove.capturesEligible hu) hl he h

/-- Settles O56: each capture step changes the records as it changes the positions assigned, which the other bank's side does not
meet; and a start makes a record for each pinned tracker, the only ones assigned. -/
theorem everyStepKeepsOneRecordForEachTracker : Obligations.EveryStepKeepsOneRecordForEachTracker := by
  intro s t hl hm hd hr h
  refine (step_keeps (P := fun u => MapsWhole u ∧ TrackersDistinct u ∧ RecordsFollow u)
    (fun u hu hv => ⟨fun h => absurd (hv.symm.trans h) (by decide), hu.banks.1, hu.banks.2.2⟩)
    (fun u raw _ _ => ⟨(u.declare_banks raw).1, (u.declare_banks raw).2.1, (u.declare_banks raw).2.2.2⟩)
    (fun u v hv _ hmove ⟨hm, hd, hr⟩ =>
      ⟨hmove.mapsWhole hm, hmove.trackersDistinct hv hm hd, hmove.recordsFollow hv hm hd hr⟩) hl ⟨hm, hd, hr⟩ h).2.2

end Sys2Proof.Machine
end

section
/-! The marker (O58): an event that can move one of its conditions ends with a report to the TTX, and every other one leaves the
conditions as they are. -/

namespace Sys2Proof.Machine

section
variable {s t u : State}

/-! ### Reports -/

theorem State.report_current (s : State) : MarkerCurrent s.report := by
  unfold MarkerCurrent
  rw [State.report_ttx, State.report_markerNow]
  cases s.ttx with
  | silent => trivial
  | sending x => rfl

/-- `t` has the TTX and the marker's conditions of `s` (R18). -/
structure SameConditions (s t : State) : Prop where
  ttx : t.ttx = s.ttx
  isolating : t.pbc.isolating = s.pbc.isolating
  alarm : t.flt.alarm = s.flt.alarm
  flag : t.pru.flag.isSome = s.pru.flag.isSome

theorem SameConditions.markerNow (h : SameConditions s t) : t.markerNow = s.markerNow := by
  unfold State.markerNow
  rw [h.isolating, h.alarm, h.flag]

theorem SameConditions.current (h : SameConditions s t) (hs : MarkerCurrent s) : MarkerCurrent t := by
  unfold MarkerCurrent at hs ⊢
  rw [h.ttx, h.markerNow]
  exact hs

theorem SameConditions.trans (h1 : SameConditions s t) (h2 : SameConditions t u) : SameConditions s u :=
  ⟨h2.ttx.trans h1.ttx, h2.isolating.trans h1.isolating, h2.alarm.trans h1.alarm, h2.flag.trans h1.flag⟩

/-- Where the TTX, the FLT, the PBC and the PRU stand, so do the conditions. -/
theorem SameConditions.of_eq (httx : t.ttx = s.ttx) (hflt : t.flt = s.flt) (hpbc : t.pbc = s.pbc) (hpru : t.pru = s.pru) :
    SameConditions s t := ⟨httx, by rw [hpbc], by rw [hflt], by rw [hpru]⟩

theorem MarkerCurrent.of_eq (hs : MarkerCurrent s) (httx : t.ttx = s.ttx) (hflt : t.flt = s.flt) (hpbc : t.pbc = s.pbc)
    (hpru : t.pru = s.pru) : MarkerCurrent t := (SameConditions.of_eq httx hflt hpbc hpru).current hs

/-! ### The condition ISOLATED -/

/-- A pump that is OFF by isolation. -/
def Pump.isolated (x : Pump) : Bool := x.state == .off && x.latch

theorem Pbc.isolating_congr {p q : Pbc} (hb : q.bypass = p.bypass)
    (hp : q.pumps.map Pump.isolated = p.pumps.map Pump.isolated) : q.isolating = p.isolating := by
  have heq (r : Pbc) : r.isolating = (r.bypass.any id || (r.pumps.map Pump.isolated).any id) := by
    rw [List.any_map]
    rfl
  rw [heq, heq, hb, hp]

theorem Pbc.retarget_isolating (p : Pbc) (c : Commissioning) (now : Moment) :
    (p.retarget c now).isolating = p.isolating :=
  Pbc.isolating_congr rfl (map_mapIdx_kept (fun j x => by rw [Pump.isolated, Pump.ramp_state, Pump.ramp_latch]; rfl) _)

theorem Pbc.hear_isolating (p : Pbc) (c : Commissioning) (now : Moment) (rs : List Neighbour) (q : Nat) :
    (p.hear c now rs q).isolating = p.isolating := by
  rw [Pbc.hear, Pbc.retarget_isolating]
  rfl

theorem Pbc.modify_isolating {p q : Pbc} {i : Nat} {f : Pump → Pump} (hb : q.bypass = p.bypass)
    (hq : q.pumps = p.pumps.modify i f) (hf : ∀ x, p.pumps[i]? = some x → (f x).isolated = x.isolated) :
    q.isolating = p.isolating := by
  refine Pbc.isolating_congr hb ?_
  rw [hq]
  exact map_modify_kept hf

theorem Pump.restore_isolated (k : PumpConfig) (now : Moment) (x : Pump) :
    (x.restore k now).isolated = x.isolated := by
  unfold Pump.restore
  split
  · next h =>
    rw [Pump.isolated, Pump.isolated, Pump.ramp_state, h]
    rfl
  · rfl

/-! ### The probe flag -/

theorem Pru.flag_of_idle {p : Pru} (h : p.isIdle = true) : p.flag = none := by
  unfold Pru.isIdle at h
  unfold Pru.flag
  split at h
  · next hs => rw [hs]
  · cases h

theorem State.scheduledAttempt_conditions (s : State) : SameConditions s s.scheduledAttempt := by
  unfold State.scheduledAttempt
  split
  · exact ⟨rfl, rfl, rfl, rfl⟩
  · split
    · next h =>
      refine ⟨rfl, rfl, rfl, ?_⟩
      unfold State.mayStart at h
      simp only [Bool.and_eq_true] at h
      rw [Pru.flag_of_idle h.1.1.2]
      rfl
    · exact .of_eq rfl rfl rfl rfl

theorem State.takeTurn_conditions (s : State) (left : List Nat) : SameConditions s (s.takeTurn left) := by
  induction left with
  | nil => exact ⟨rfl, rfl, rfl, rfl⟩
  | cons j rest ih =>
    unfold State.takeTurn
    split
    · split
      · next h =>
        refine ⟨rfl, rfl, rfl, ?_⟩
        unfold State.mayStart at h
        simp only [Bool.and_eq_true] at h
        rw [Pru.flag_of_idle h.1.1.2]
        rfl
      · exact ⟨rfl, rfl, rfl, rfl⟩
    · exact ih

theorem Pru.endProbe_flag (c : Commissioning) (now : Moment) (source : ProbeSource) (p : Pru) :
    (p.endProbe c now source).flag = none := by
  unfold Pru.endProbe
  split
  · split <;> rfl
  · rfl

theorem State.abortProbe_conditions {pr : Probe} (h : s.pru.state = .starting pr) : SameConditions s (s.abortProbe pr) := by
  refine ⟨rfl, rfl, rfl, ?_⟩
  have hnow : s.pru.flag = none := by rw [Pru.flag, h]
  have hend : (s.abortProbe pr).pru.flag = none := Pru.endProbe_flag s.cfg s.now pr.source s.pru
  rw [hnow, hend]

/-! ### Frames, records and directives -/

theorem State.tellPbc_conditions (s : State) (q : Nat) : SameConditions s (s.tellPbc q) :=
  ⟨rfl, Pbc.hear_isolating .., rfl, rfl⟩

theorem State.tellFlt_conditions (s : State) (q : Nat) : SameConditions s (s.tellFlt q) := ⟨rfl, rfl, rfl, rfl⟩

theorem State.collisionTest_current (hs : MarkerCurrent s) (q : Nat) : MarkerCurrent (s.collisionTest q) := by
  unfold State.collisionTest
  split
  · split
    · exact State.report_current _
    · exact hs
  · exact hs

theorem State.replaceRecord_current (hs : MarkerCurrent s) (f : Frame) : MarkerCurrent (s.replaceRecord f) := by
  have hrecord : MarkerCurrent { s with records := updateRecord f.origin (Neighbour.replace s.now f) s.records } :=
    hs.of_eq rfl rfl rfl rfl
  have htold := (State.tellPbc_conditions _ f.origin).current ((State.tellFlt_conditions _ f.origin).current hrecord)
  have hpru : MarkerCurrent (State.announceReplaced
      { s with records := updateRecord f.origin (Neighbour.replace s.now f) s.records } f.origin) := by
    unfold State.announceReplaced State.tellPru
    split
    · exact State.collisionTest_current htold _
    · exact htold
  exact hpru.of_eq (State.offerAll_ttx ..) (State.offerAll_flt ..) (State.offerAll_pbc ..) (State.offerAll_pru ..)

theorem State.execute_current (hs : MarkerCurrent s) (k : DirectiveKind) : MarkerCurrent (s.execute k) := by
  cases k
  · exact State.report_current _
  · exact State.report_current _
  · exact State.report_current _
  · exact hs

theorem State.filterDirective_current (hs : MarkerCurrent s) (origin : Nat) (d : Directive) :
    MarkerCurrent (s.filterDirective origin d) := by
  have hset (f : Filter) : MarkerCurrent (s.setFilter f) := hs.of_eq rfl rfl rfl rfl
  unfold State.filterDirective
  split
  · dsimp only
    split
    · exact State.execute_current (hset _) _
    · exact hset _
  · split
    · dsimp only
      split
      · exact State.execute_current (hset _) _
      · exact hset _
    · exact hs

theorem State.deliver_current (hs : MarkerCurrent s) (f : Frame) : MarkerCurrent (s.deliver f) := by
  unfold State.deliver
  split
  · exact State.filterDirective_current (State.replaceRecord_current hs f) _ _
  · exact State.replaceRecord_current hs f

theorem State.onTracker_current (hs : MarkerCurrent s) (b : Bank) (i : Nat) (g : Tracker → Tracker) :
    MarkerCurrent (s.onTracker b i g) :=
  hs.of_eq (State.onTracker_ttx ..) (State.onTracker_flt ..) (State.onTracker_pbc ..) (State.onTracker_pru ..)

theorem State.takeCut_current (hs : MarkerCurrent s) (b : Bank) (i q : Nat) (stream : List Bool) :
    MarkerCurrent (s.takeCut b i q stream) := by
  unfold State.takeCut
  split
  · split
    · unfold State.takeSecond
      have hsettled : MarkerCurrent (s.settleCut b i).spend := hs.of_eq rfl rfl rfl rfl
      dsimp only
      split
      · exact State.deliver_current (State.onTracker_current hsettled ..) _
      · exact hsettled
    · exact hs
  · exact hs

theorem State.takeAnswer_current (hs : MarkerCurrent s) (r : DriveRequest) (granted : Bool) :
    MarkerCurrent (s.takeAnswer r granted) := by
  unfold State.takeAnswer
  split
  · next pr hst _ =>
    split
    · exact State.report_current _
    · exact (State.abortProbe_conditions hst).current hs
  · split
    · exact SameConditions.current (s := s) ⟨rfl, rfl, rfl, rfl⟩ hs
    · exact hs

/-! ### Every command -/

theorem exec_frameChecked_current {b : Bank} {i : Nat} {bits : List Bool} (hs : MarkerCurrent s)
    (he : execFrameChecked b i bits s = .next t) : MarkerCurrent t := by
  unfold execFrameChecked at he
  split at he
  · split at he
    · dsimp only at he
      split at he
      · split at he <;> cases he
        · exact State.deliver_current (State.onTracker_current hs ..) _
        · exact State.onTracker_current hs ..
      · cases he
        exact State.onTracker_current hs ..
    · split at he <;> cases he
      · exact State.takeCut_current hs ..
      · exact hs
    · cases he
      exact hs
  · cases he
    exact hs

theorem exec_marker {c : Instr} (hs : MarkerCurrent s) (he : exec c s = .next t) : MarkerCurrent t := by
  have htouch := exec_touch c s t he
  cases c <;> simp only [exec] at he
  case coldStart =>
    cases he
    trivial
  case declareValid raw =>
    unfold execDeclareValid at he
    split at he <;> cases he
    · exact rfl
    · exact hs
  case sampleSet raw =>
    unfold execSampleSet at he
    split at he <;> cases he
    · exact State.report_current _
    · exact hs
  case dwellComplete b d =>
    unfold execDwellComplete at he
    split at he
    · next w _ _ =>
      have hbank : MarkerCurrent (s.visited b w (observedClass d)) :=
        hs.of_eq (State.setBank_ttx ..) (State.setBank_flt ..) (State.setBank_pbc ..) (State.setBank_pru ..)
      dsimp only at he
      split at he <;> cases he
      · refine SameConditions.current ?_ hbank
        refine ⟨State.presenceChange_ttx .., ?_, by rw [State.presenceChange_flt]; rfl, by rw [State.presenceChange_pru]; rfl⟩
        exact State.presenceChange_pbc (P := fun p => p.isolating = _) (fun p rs q hp => by rw [Pbc.hear_isolating]; exact hp)
          rfl
      · exact hbank
    · cases he
      exact hs
  case frameChecked => exact exec_frameChecked_current hs he
  case recordAgeTick q =>
    unfold execRecordAgeTick at he
    split at he
    · split at he
      · dsimp only at he
        split at he <;> cases he
        · exact (State.tellPbc_conditions _ _).current ((State.tellFlt_conditions _ _).current (hs.of_eq rfl rfl rfl rfl))
        · exact hs.of_eq rfl rfl rfl rfl
      · cases he
        exact hs
    · cases he
      exact hs
  case frameSnapshot =>
    unfold execFrameSnapshot at he
    split at he
    · next x hx =>
      cases he
      unfold MarkerCurrent at hs
      rw [hx] at hs
      exact hs
    · cases he
      exact hs
  case judgementEpoch =>
    unfold execJudgementEpoch at he
    split at he <;> cases he
    · exact State.report_current _
    · exact hs
  case probeEpochRetry =>
    unfold execProbeEpochRetry at he
    split at he <;> cases he
    · exact s.scheduledAttempt_conditions.current hs
    · exact hs
  case roundEpochRetry =>
    unfold execRoundEpochRetry at he
    split at he
    · split at he <;> cases he
      · exact (s.takeTurn_conditions _).current hs
      · exact hs
    · cases he
      exact hs
  case ampIsolationRequest =>
    unfold execAmpIsolationRequest at he
    split at he
    · dsimp only at he
      split at he
      · cases he
        exact (SameConditions.mk rfl rfl rfl rfl).current hs
      · split at he <;> cases he
        · exact (SameConditions.mk rfl rfl rfl rfl).current hs
        · exact State.report_current _
    · cases he
      exact hs
  case pumpIsolationRequest =>
    unfold execPumpIsolationRequest at he
    split at he
    · dsimp only at he
      split at he
      · cases he
        exact (SameConditions.mk rfl rfl rfl rfl).current hs
      · split at he <;> cases he
        · exact (SameConditions.mk rfl rfl rfl rfl).current hs
        · exact State.report_current _
    · cases he
      exact hs
  case stepTimerExpiry j =>
    unfold execStepTimerExpiry at he
    split at he <;> cases he
    · refine SameConditions.current (s := s) ⟨rfl, ?_, rfl, rfl⟩ hs
      exact Pbc.modify_isolating rfl rfl fun _ _ => rfl
    · exact hs
  case probeIntervalExpiry =>
    unfold execProbeIntervalExpiry at he
    split at he
    · cases he
      exact hs
    · dsimp only at he
      split at he <;> cases he
      · exact (SameConditions.mk rfl rfl rfl rfl).current hs
      · exact (State.scheduledAttempt_conditions _).current ((SameConditions.mk rfl rfl rfl rfl).current hs)
  case probeDriveRequest =>
    unfold execProbeDriveRequest at he
    split at he
    · next r rest _ =>
      dsimp only at he
      split at he <;> cases he
      · next hgrant =>
        refine State.takeAnswer_current ?_ _ _
        refine SameConditions.current (s := s) ⟨rfl, ?_, rfl, rfl⟩ hs
        refine Pbc.modify_isolating rfl rfl fun x hx => ?_
        unfold State.grantsProbe Pbc.isIn at hgrant
        simp [hx] at hgrant
        rw [Pump.isolated, Pump.isolated, hgrant.1.1]
        rfl
      · refine State.takeAnswer_current ?_ _ _
        exact SameConditions.current (s := s) ⟨rfl, rfl, rfl, rfl⟩ hs
    · cases he
      exact hs
  case probeWindowExpiry =>
    unfold execProbeWindowExpiry at he
    split at he <;> cases he
    · exact State.report_current _
    · exact hs
  case restoreRequest =>
    unfold execRestoreRequest at he
    split at he <;> cases he
    · refine SameConditions.current (s := s) ⟨rfl, ?_, rfl, rfl⟩ hs
      exact Pbc.modify_isolating rfl rfl fun _ _ => Pump.restore_isolated ..
    · exact hs
  case gapTimerExpiry =>
    unfold execGapTimerExpiry at he
    split at he <;> cases he
    · exact (State.takeTurn_conditions _ _).current ((SameConditions.mk rfl rfl rfl rfl).current hs)
    · exact hs
  all_goals exact hs.of_eq (htouch.ttx rfl) (htouch.flt rfl) (htouch.pbc rfl) (htouch.pru rfl)

end

/-! ### The conditions in the words of R18 -/

theorem Pbc.isolating_iff (p : Pbc) :
    p.isolating = true ↔
      (∃ a : Nat, p.bypass[a]? = some true) ∨ ∃ x ∈ p.pumps, x.state = .off ∧ x.latch = true := by
  simp [Pbc.isolating, List.mem_iff_getElem?]

theorem Flt.alarm_iff (f : Flt) :
    f.alarm = true ↔
      (∃ e ∈ f.spans, e.state = .faulty) ∨ (∃ e ∈ f.amps, e.state = .faulty) ∨ ∃ e ∈ f.pumps, e.state = .faulty := by
  simp [Flt.alarm, or_assoc]

theorem Pru.flag_isSome_iff (p : Pru) : p.flag.isSome = true ↔ ∃ pr w, p.state = .probing pr w := by
  cases h : p.state <;> simp [Pru.flag, h]

/-- Settles O58: `exec_marker` for the steps; and the marker is decided by the first condition that holds. -/
theorem everyStepKeepsTheMarkerCurrent : Obligations.EveryStepKeepsTheMarkerCurrent := by
  refine ⟨fun s t hs h => ?steps, fun s => ?conditions⟩
  case steps =>
    rcases step_cases s t h with ⟨c, rest, -, he⟩ | ⟨-, bits, c, spi, -, he⟩ | ⟨-, spi, rfl⟩ | ⟨-, -, rfl⟩
    · exact exec_marker (s := { s with pending := rest }) hs he
    · exact exec_marker (s := { s with spi := spi }) hs he
    · exact hs
    · exact hs
  case conditions =>
    dsimp only
    rw [← Pbc.isolating_iff, ← Flt.alarm_iff, ← Pru.flag_isSome_iff]
    refine ⟨fun h1 => ?_, fun h1 h2 => ?_, fun h1 h2 h3 => ?_, fun h1 h2 h3 => ?_, fun x hx => ?_⟩
    · simp [State.markerNow, h1]
    · simp [State.markerNow, h1, h2]
    · simp [State.markerNow, h1, h2, h3]
    · simp [State.markerNow, h1, h2, h3]
    · unfold MarkerCurrent
      rw [hx]

end Sys2Proof.Machine
end

section
/-! Steps, reset and the load (O1 to O7): every command completes, what reset holds, and the read transactions of the loader. -/

namespace Sys2Proof.Machine

/-! ### Steps (O1) -/

/-- Every command answers a next state, whose queue of commands is the one given. -/
theorem exec_completes (c : Instr) (s : State) : ∃ t, exec c s = .next t ∧ t.pending = s.pending := by
  cases c <;> simp only [exec]
  case coldStart => exact ⟨_, rfl, rfl⟩
  case loadBegin => unfold execLoadBegin; split <;> exact ⟨_, rfl, rfl⟩
  case stationClockTick => unfold execStationClockTick; split <;> exact ⟨_, rfl, rfl⟩
  case readingHeader =>
    unfold execReadingHeader
    split
    · split <;> exact ⟨_, rfl, rfl⟩
    · exact ⟨_, rfl, rfl⟩
  case readingBody =>
    unfold execReadingBody
    split
    · split
      · dsimp only
        split <;> exact ⟨_, rfl, rfl⟩
      · exact ⟨_, rfl, rfl⟩
    · exact ⟨_, rfl, rfl⟩
  case wordTransferTimeout => unfold execWordTransferTimeout; split <;> exact ⟨_, rfl, rfl⟩
  case declareValid => unfold execDeclareValid; split <;> exact ⟨_, rfl, by simp⟩
  case sampleSet => unfold execSampleSet; split <;> exact ⟨_, rfl, by simp⟩
  case confirmationTimerExpiry => unfold execConfirmationTimerExpiry; split <;> exact ⟨_, rfl, by simp⟩
  case dwellComplete =>
    unfold execDwellComplete
    split
    · dsimp only
      split <;> exact ⟨_, rfl, by simp⟩
    · exact ⟨_, rfl, rfl⟩
  case syncFound =>
    unfold execSyncFound
    split
    · split
      · exact ⟨_, rfl, rfl⟩
      · split <;> exact ⟨_, rfl, by simp⟩
    · exact ⟨_, rfl, rfl⟩
  case frameChecked =>
    unfold execFrameChecked
    split
    · split
      · dsimp only
        split
        · split <;> exact ⟨_, rfl, by simp⟩
        · exact ⟨_, rfl, by simp⟩
      · split <;> exact ⟨_, rfl, by simp⟩
      · exact ⟨_, rfl, rfl⟩
    · exact ⟨_, rfl, rfl⟩
  case syncMissing =>
    unfold execSyncMissing
    split
    · dsimp only
      split <;> exact ⟨_, rfl, by simp⟩
    · exact ⟨_, rfl, rfl⟩
  case syncTimerExpiry =>
    unfold execSyncTimerExpiry
    split
    · split <;> exact ⟨_, rfl, by simp⟩
    · exact ⟨_, rfl, rfl⟩
  case recordAgeTick =>
    unfold execRecordAgeTick
    split
    · split
      · dsimp only
        split <;> exact ⟨_, rfl, by simp⟩
      · exact ⟨_, rfl, rfl⟩
    · exact ⟨_, rfl, rfl⟩
  case frameSnapshot => unfold execFrameSnapshot; split <;> exact ⟨_, rfl, rfl⟩
  case judgementEpoch => unfold execJudgementEpoch; split <;> exact ⟨_, rfl, by simp⟩
  case probeEpochRetry => unfold execProbeEpochRetry; split <;> exact ⟨_, rfl, by simp⟩
  case roundEpochRetry =>
    unfold execRoundEpochRetry
    split
    · split <;> exact ⟨_, rfl, by simp⟩
    · exact ⟨_, rfl, rfl⟩
  case ampIsolationRequest =>
    unfold execAmpIsolationRequest
    split
    · dsimp only
      split
      · exact ⟨_, rfl, rfl⟩
      · split <;> exact ⟨_, rfl, by simp⟩
    · exact ⟨_, rfl, rfl⟩
  case pumpIsolationRequest =>
    unfold execPumpIsolationRequest
    split
    · dsimp only
      split
      · exact ⟨_, rfl, rfl⟩
      · split <;> exact ⟨_, rfl, by simp⟩
    · exact ⟨_, rfl, rfl⟩
  case stepTimerExpiry => unfold execStepTimerExpiry; split <;> exact ⟨_, rfl, rfl⟩
  case probeIntervalExpiry =>
    unfold execProbeIntervalExpiry
    split
    · exact ⟨_, rfl, rfl⟩
    · dsimp only
      split <;> exact ⟨_, rfl, by simp⟩
  case probeDriveRequest =>
    unfold execProbeDriveRequest
    split
    · dsimp only
      split <;> exact ⟨_, rfl, by simp⟩
    · exact ⟨_, rfl, rfl⟩
  case probeWindowExpiry => unfold execProbeWindowExpiry; split <;> exact ⟨_, rfl, by simp⟩
  case restoreRequest => unfold execRestoreRequest; split <;> exact ⟨_, rfl, rfl⟩
  case gapTimerExpiry => unfold execGapTimerExpiry; split <;> exact ⟨_, rfl, by simp⟩
  case readStatus => unfold execReadStatus; split <;> exact ⟨_, rfl, rfl⟩
  case readPresence => unfold execReadPresence; split <;> exact ⟨_, rfl, by simp⟩
  case readObservation => unfold execReadObservation; split <;> exact ⟨_, rfl, by simp⟩
  case writeDirective =>
    unfold execWriteDirective
    split
    · split
      · exact ⟨_, rfl, by simp⟩
      · split <;> exact ⟨_, rfl, by simp⟩
    · exact ⟨_, rfl, rfl⟩
  case clearDirective => unfold execClearDirective; split <;> exact ⟨_, rfl, by simp⟩
  case readRecord =>
    unfold execReadRecord
    split
    · split <;> exact ⟨_, rfl, by simp⟩
    · exact ⟨_, rfl, rfl⟩
  case advance => unfold execAdvance; split <;> exact ⟨_, rfl, by simp⟩
  case clearQueue => unfold execClearQueue; split <;> exact ⟨_, rfl, by simp⟩
  case badCommand => unfold execBadCommand; split <;> exact ⟨_, rfl, by simp⟩
  case recordTimerExpiry => unfold execRecordTimerExpiry; split <;> exact ⟨_, rfl, rfl⟩
  case absoluteTimerExpiry => unfold execAbsoluteTimerExpiry; split <;> exact ⟨_, rfl, rfl⟩

/-- Settles O1: a step on a queue with a front is `exec` of it by definition, and `exec_completes`. -/
theorem stepRunsTheFrontCommand : Obligations.StepRunsTheFrontCommand :=
  ⟨fun _ _ _ => rfl, exec_completes⟩

/-! ### Reset (O2 to O4) -/

/-- Settles O2: reset is `State.cold`, field by field. -/
theorem resetHoldsTheColdStartValues : Obligations.ResetHoldsTheColdStartValues := by
  have hbank (b : Bank) : State.reset.bank b = RxBank.cold := by cases b <;> rfl
  have hdriver (j : Nat) : State.reset.driverPin j = .handOff := rfl
  have hbypass (a : Nat) : State.reset.bypassPin a = .handOff := rfl
  refine ⟨rfl, rfl, rfl, rfl, rfl, rfl, rfl, rfl, rfl, rfl, rfl, fun b => ?_, rfl, rfl, rfl, rfl, hdriver, hbypass, rfl, rfl,
    rfl, rfl, rfl, rfl, rfl, rfl, rfl, rfl, rfl, rfl, rfl, rfl, rfl, rfl, rfl⟩
  rw [hbank]
  exact ⟨rfl, rfl, rfl, rfl, rfl⟩

/-- Settles O3: reset is untouched and INVALID, so its tables are empty and its banks cold. -/
theorem resetSatisfiesEveryInvariant : Obligations.ResetSatisfiesEveryInvariant := by
  have hu : State.reset.untouched := State.cold_untouched _ _ _ _
  have hv : State.reset.cfl.valid ≠ true := nofun
  obtain ⟨hdistinct, heligible, hrecords⟩ := hu.banks
  have hmeters : MetersInRange State.reset := by
    refine ⟨fun m hm => ?_, fun m hm => ?_⟩ <;> rw [List.eq_of_mem_replicate hm] <;> rfl
  have hscores : ScoresSound State.reset := ⟨nofun, nofun, nofun, nofun⟩
  exact ⟨State.cold_loaded _ _ _ _, fun h => absurd h hv, hmeters, hscores, nofun, nofun, nofun, hdistinct,
    fun h => absurd h hv, hrecords, Nat.zero_le 1, ⟨List.nodup_nil, nofun⟩, trivial, fun h => absurd h hv, Nat.zero_le _,
    ⟨rfl, rfl, nofun⟩, heligible⟩

/-- Settles O4: both sides are `State.cold` with the switches, the pins, the count and the queue that stand. -/
theorem coldStartDiscardsEverything : Obligations.ColdStartDiscardsEverything := fun _ => rfl

/-! ### The start of the load (O5) -/

theorem exec_stationClockTick {s : State} (hheld : s.cfl.resetHeld = false) :
    exec .stationClockTick s =
      .next { s with
              now := max s.now (1000 * (s.cfl.clock + 1))
              cfl := { s.cfl with clock := saturate32 (s.cfl.clock + 1) } } := by
  simp only [exec]
  unfold execStationClockTick
  rw [if_neg (Bool.eq_false_iff.1 hheld)]
  rfl

/-- Settles O5: below its last value the clock's saturation does nothing, and there it holds it. -/
theorem loadBeginStartsTheClock : Obligations.LoadBeginStartsTheClock := by
  refine ⟨fun strap s hheld => ?begin, fun s hheld hlt => ?tick, fun s hheld heq => ?last, fun s hheld => ?held⟩
  case begin =>
    simp only [exec, execLoadBegin, hheld, if_true]
    cases strap <;> rfl
  case tick =>
    have hsat : saturate32 (s.cfl.clock + 1) = s.cfl.clock + 1 := Nat.min_eq_left (show _ ≤ 2 ^ 32 - 1 by omega)
    rw [exec_stationClockTick hheld, hsat]
  case last =>
    have hsat : saturate32 (s.cfl.clock + 1) = s.cfl.clock := by
      rw [heq]
      rfl
    rw [exec_stationClockTick hheld, hsat, show s.cfl.clock + 1 = 2 ^ 32 by omega]
  case held => simp only [exec, execStationClockTick, hheld, if_true]

/-! ### The two-wire port (O6, O7) -/

/-- The data bytes of a read, by their index: the last is the one that is not acknowledged (R164). -/
theorem receivedBytes_eq (bytes : List Byte) :
    receivedBytes bytes = (List.range bytes.length).flatMap fun i =>
      [.received (bytes.getD i 0), if i + 1 = bytes.length then .ackWithheld else .ackSent] := by
  induction bytes with
  | nil => rfl
  | cons b rest ih =>
    cases rest with
    | nil => rfl
    | cons c more =>
      rw [receivedBytes, ih, List.length_cons (a := b), List.range_succ_eq_map, List.flatMap_cons, List.flatMap_map]
      · simp
      · nofun

/-- The levels of a byte, bit by bit, most significant first (R164). -/
theorem byte_wires (b : Byte) :
    ((bitsOf 8 b.toNat).flatMap fun x => clocked (levelOf x)) =
      (List.range 8).flatMap fun i =>
        let d : Level := if b.toNat.testBit (7 - i) then .high else .low
        [(⟨.low, d⟩ : Wires), ⟨.high, d⟩, ⟨.low, d⟩] := by
  rw [bitsOf, List.flatMap_map]
  rfl

/-- Between two moments of clocks that follow each other, MSDA changes only while MSCL is low. -/
theorem clocked_changes_low (bits : List Bool) (i : Nat) (u v : Wires)
    (hu : (bits.flatMap fun x => clocked (levelOf x))[i]? = some u)
    (hv : (bits.flatMap fun x => clocked (levelOf x))[i + 1]? = some v) (hne : u.msda ≠ v.msda) :
    u.mscl = .low ∧ v.mscl = .low := by
  induction bits generalizing i with
  | nil => simp at hu
  | cons b rest ih =>
    rw [List.flatMap_cons] at hu hv
    match i with
    | 0 =>
      cases hu
      cases hv
      exact absurd rfl hne
    | 1 =>
      cases hu
      cases hv
      exact absurd rfl hne
    | 2 =>
      cases hu
      cases rest with
      | nil => simp [clocked] at hv
      | cons c more =>
        cases hv
        exact ⟨rfl, rfl⟩
    | i + 3 => exact ih i hu hv

/-- The same of one clock. -/
theorem clock_changes_low (d : Level) (i : Nat) (u v : Wires) (hu : (clocked d)[i]? = some u)
    (hv : (clocked d)[i + 1]? = some v) (hne : u.msda ≠ v.msda) : u.mscl = .low ∧ v.mscl = .low := by
  match i with
  | 0 =>
    cases hu
    cases hv
    exact absurd rfl hne
  | 1 =>
    cases hu
    cases hv
    exact absurd rfl hne
  | i + 2 => simp [clocked] at hv

theorem BusSymbol.wires_change_low (x : BusSymbol) (h1 : x ≠ .start) (h2 : x ≠ .repeatedStart) (h3 : x ≠ .stop) (i : Nat)
    (u v : Wires) (hu : x.wires[i]? = some u) (hv : x.wires[i + 1]? = some v) (hne : u.msda ≠ v.msda) :
    u.mscl = .low ∧ v.mscl = .low := by
  cases x
  case start => exact absurd rfl h1
  case repeatedStart => exact absurd rfl h2
  case stop => exact absurd rfl h3
  case sent b => exact clocked_changes_low _ i u v hu hv hne
  case received b => exact clocked_changes_low _ i u v hu hv hne
  case acked => exact clock_changes_low _ i u v hu hv hne
  case notAcked => exact clock_changes_low _ i u v hu hv hne
  case ackSent => exact clock_changes_low _ i u v hu hv hne
  case ackWithheld => exact clock_changes_low _ i u v hu hv hne
  case released => simp [BusSymbol.wires] at hv

theorem Cfl.check_bus (strap : Role) (x : Cfl) : (x.check strap).bus = x.bus := by
  unfold Cfl.check
  split
  · rfl
  · split <;> rfl

theorem Cfl.takeHeader_keeps (hi lo : Byte) (x : Cfl) :
    (x.takeHeader hi lo).bus = x.bus ∧ (x.takeHeader hi lo).resetHeld = x.resetHeld ∧
      (x.takeHeader hi lo).strap = x.strap ∧ (x.takeHeader hi lo).valid = x.valid ∧
      (x.takeHeader hi lo).clock = x.clock := by
  unfold Cfl.takeHeader
  split
  · exact ⟨rfl, rfl, rfl, rfl, rfl⟩
  · split <;> exact ⟨rfl, rfl, rfl, rfl, rfl⟩

section
variable {s : State}

theorem exec_readingHeader_data (hheld : s.cfl.resetHeld = false) (hphase : s.cfl.phase = .readingHeader) (hi lo : Byte)
    (rest : List Byte) :
    exec (.readingHeader (.data (hi :: lo :: rest))) s =
      .next { s with cfl := { s.cfl with bus := busTransaction 0 (.data [hi, lo]) }.takeHeader hi lo } := by
  simp only [exec, execReadingHeader, Cfl.isLoading, hheld, hphase]
  rfl

/-- The body as it is read, cut to the length that word 0 gives it (R164). -/
theorem exec_readingBody_eq (hheld : s.cfl.resetHeld = false) (hphase : s.cfl.phase = .readingBody) (header : Word)
    (himage : s.cfl.image = [header]) (bytes : List Byte) :
    exec (.readingBody (.data bytes)) s =
      if bytes.length < 2 * (header.toNat % 256) then .next s
      else .next { s with
        cfl := (s.cfl.bodyRead header (bytes.take (2 * (header.toNat % 256)))).check s.cfl.strap } := by
  have hcount : s.cfl.bodyLength = header.toNat % 256 := by simp [Cfl.bodyLength, field, wordAt, himage]
  simp only [exec, execReadingBody, Cfl.isLoading, hheld, hphase, hcount]
  simp only [List.length_take, himage]
  by_cases h : bytes.length < 2 * (header.toNat % 256)
  · rw [if_pos h]
    simp [h]
  · rw [if_neg h]
    simp [h, Cfl.bodyRead, hheld, hphase]

end

/-- Settles O6: the header's three cases, the body read and cut to its length, and the levels symbol by symbol. -/
theorem headerIsJudgedBeforeTheBody : Obligations.HeaderIsJudgedBeforeTheBody := by
  unfold Obligations.HeaderIsJudgedBeforeTheBody
  intro read clock byte
  have hread (address : Byte) (data : List Byte) :
      busTransaction address (.data data) = read address (receivedBytes data) := rfl
  refine ⟨fun hi lo rest s hheld hphase => ?header, fun bytes header s hheld hphase himage => ⟨fun hlen => ?body,
      fun hlen => ?long, fun hlen => ?short⟩, fun bytes s hheld hphase hlen => ?few, fun _ => rfl, rfl, rfl, rfl,
    fun b => ⟨byte_wires b, byte_wires b⟩, rfl, rfl, rfl, rfl, rfl, BusSymbol.wires_change_low⟩
  case header =>
    refine ⟨_, exec_readingHeader_data hheld hphase hi lo rest, ?_⟩
    obtain ⟨hbus, hreset, hstrap, hvalid, hclock⟩ :=
      Cfl.takeHeader_keeps hi lo { s.cfl with bus := busTransaction 0 (.data [hi, lo]) }
    refine ⟨hbus, hreset.trans hheld, hstrap, hvalid, hclock, fun hmagic => ?_, fun hmagic hlen => ?_,
      fun hmagic hlo hhi => ?_⟩
    · rw [Cfl.takeHeader, if_pos (show hi ≠ Config.magic from hmagic)]
      exact ⟨rfl, rfl, rfl⟩
    · rw [Cfl.takeHeader, if_neg (show ¬hi ≠ Config.magic from not_not_intro hmagic), if_pos hlen]
      exact ⟨rfl, rfl, rfl⟩
    · rw [Cfl.takeHeader, if_neg (show ¬hi ≠ Config.magic from not_not_intro hmagic), if_neg (by omega)]
      exact ⟨rfl, rfl, rfl⟩
  case body =>
    refine ⟨_, exec_readingBody_data hheld hphase himage hlen, ?_⟩
    rw [Cfl.check_bus, Cfl.bodyRead, hread, receivedBytes_eq, hlen]
  case long =>
    rw [exec_readingBody_eq hheld hphase header himage, exec_readingBody_eq hheld hphase header himage,
      List.length_take, List.take_take, Nat.min_eq_left hlen, Nat.min_self, if_neg (by omega), if_neg (by omega)]
  case short => rw [exec_readingBody_eq hheld hphase header himage, if_pos hlen]
  case few =>
    match bytes with
    | [] => simp only [exec, execReadingHeader, ite_self]
    | [_] => simp only [exec, execReadingHeader, ite_self]
    | _ :: _ :: _ => simp at hlen

/-- Settles O7: either transaction ends where its acknowledge is missing, and the load with it. -/
theorem unansweredReadsEndAbsent : Obligations.UnansweredReadsEndAbsent := by
  intro s hheld
  refine ⟨fun address read hwhich => ?reads, fun hphase => ?timeout⟩
  case reads =>
    rcases hwhich with ⟨hphase, rfl, rfl⟩ | ⟨hphase, rfl, rfl⟩
    · simp only [exec, execReadingHeader, Cfl.isLoading, hheld, hphase]
      exact ⟨rfl, rfl, rfl⟩
    · simp only [exec, execReadingBody, Cfl.isLoading, hheld, hphase]
      exact ⟨rfl, rfl, rfl⟩
  case timeout =>
    have hloading : (s.cfl.isLoading .readingHeader || s.cfl.isLoading .readingBody) = true := by
      rw [Bool.or_eq_true, Cfl.isLoading_iff, Cfl.isLoading_iff]
      exact hphase.imp (⟨hheld, ·⟩) (⟨hheld, ·⟩)
    simp only [exec, execWordTransferTimeout, hloading, if_true]
    rfl

end Sys2Proof.Machine
end

section
/-! The declaration of VALID (O10 to O12): the first sample set, the pumps and the Suspect Table at the start, and the banks. -/

namespace Sys2Proof.Machine

section
variable {s : State} {raw : Readings}

theorem exec_declareValid (hheld : s.cfl.resetHeld = false) (hphase : s.cfl.phase = .sampling) :
    exec (.declareValid raw) s = .next (s.declare raw) :=
  if_pos ((Cfl.isLoading_iff _ _).2 ⟨hheld, hphase⟩)

/-! ### The first sample set (R2, R5, R12) -/

theorem Lmu.firstSet_inputs_getElem? (c : Commissioning) (raw : Readings) (l : Lmu) {a : Nat} (ha : a < 8) :
    (l.firstSet c raw).inputs[a]? = some (if a < c.ampCount then InputMeter.first c raw.input[a] else .outOfUse) := by
  simp [Lmu.firstSet, ha]

theorem Lmu.firstSet_outputs_getElem? (c : Commissioning) (raw : Readings) (l : Lmu) {a : Nat} (ha : a < 8) :
    (l.firstSet c raw).outputs[a]? = some (if a < c.ampCount then OutputMeter.first raw.output[a] else .outOfUse) := by
  simp [Lmu.firstSet, ha]

end

/-- Settles O10: `State.declare` field by field, and the first reading of each meter. -/
theorem declareTakesTheFirstSampleSet : Obligations.DeclareTakesTheFirstSampleSet := by
  intro raw s hheld hphase
  refine ⟨_, exec_declareValid hheld hphase, rfl, rfl, ?_, ?_, fun a ha => ⟨?_, ?_⟩, _, rfl⟩
  · simp [State.declare, State.startSending, Lmu.firstSet]
  · simp [State.declare, State.startSending, Lmu.firstSet]
  · exact Lmu.firstSet_inputs_getElem? s.cfg raw s.lmu ha
  · exact Lmu.firstSet_outputs_getElem? s.cfg raw s.lmu ha

section
variable {s : State} {raw : Readings}

/-! ### The pumps (R147) -/

/-- With no demand and no pump OFF the sum is the base (R132). -/
theorem targetSum_of_idle {c : Commissioning} {p : Pbc} {j : Nat} (hd : p.demands = [])
    (hoff : ∀ x ∈ p.pumps, x.state ≠ .off)
    (horder : (c.pump j).floor ≤ (c.pump j).base ∧ (c.pump j).base ≤ (c.pump j).ceiling) :
    targetSum c p j = (c.pump j).base := by
  have hzero : (List.range p.pumps.length).countP (fun l =>
      decide (l ≠ j ∧ (p.pumps[l]?.map Pump.state) = some .off) && c.intersects l j) = 0 := by
    refine List.countP_eq_zero.2 fun l _ hl => ?_
    rw [Bool.and_eq_true, decide_eq_true_eq] at hl
    obtain ⟨x, hx, hs⟩ := Option.map_eq_some_iff.1 hl.1.2
    exact hoff x (List.mem_of_getElem? hx) hs
  unfold targetSum
  rw [hd, hzero]
  simp only [List.countP_nil, Nat.mul_zero, Nat.add_zero]
  omega

/-- A pump just started (R147, R133). -/
theorem Pump.ramp_start (k : PumpConfig) (now : Moment) (horder : k.floor ≤ k.base) :
    Pump.ramp k now { Pump.start k with target := k.base } =
      { state := .active, target := k.base, applied := if k.interval = 0 then k.base else k.floor, latch := false,
        preProbe := none,
        step := if k.interval ≠ 0 ∧ k.floor < k.base then some (now + 10 * k.interval) else none } := by
  unfold Pump.ramp Pump.busy Pump.start
  rcases horder.eq_or_lt with heq | hlt
  · simp [heq]
  · by_cases hk : k.interval = 0
    · simp [hk, hlt.ne]
    · simp [hk, hlt.ne, hlt, Config.stepUnit]

theorem Pbc.start_pumps (hc : s.commissioned) (p : Pbc) (now : Moment) {j : Nat} (hj : j < s.cfg.m) :
    (p.start s.cfg now).pumps[j]? =
      some (Pump.ramp (s.cfg.pump j) now { Pump.start (s.cfg.pump j) with target := (s.cfg.pump j).base }) := by
  have hpump : s.cfg.pumps[j]? = some (s.cfg.pump j) := Commissioning.pumps_getElem? (hj.trans_eq s.cfg_pumps_length.symm)
  unfold Pbc.start Pbc.retarget
  rw [List.getElem?_mapIdx, List.getElem?_map, hpump, Option.map_some, Option.map_some, Pbc.targetOf_eq,
    targetSum_of_idle rfl (fun x hx => ?_) (hc.pump_order j)]
  obtain ⟨k, -, rfl⟩ := List.mem_map.1 hx
  nofun

theorem Pbc.start_isolating (p : Pbc) (c : Commissioning) (now : Moment) : (p.start c now).isolating = false := by
  rw [Pbc.start, Pbc.retarget_isolating]
  simp [Pbc.isolating, Pump.start]

/-! ### The Suspect Table (R109, R113, R126) -/

theorem Flt.start_spans (c : Commissioning) (clock : Nat) (now : Moment) (l : Lmu) {a : Nat} (ha : a < c.ampCount) :
    (Flt.start c clock now l).spans[a]? =
      some (if l.isDark a then ⟨255, .faulty, .lossOfLight, clock, .none⟩ else ⟨0, .clear, .none, clock, .none⟩) := by
  have hstart : (List.replicate c.ampCount (SpanEntry.start clock))[a]? = some (SpanEntry.start clock) := by simp [ha]
  unfold Flt.start Flt.takeClasses
  rw [List.getElem?_mapIdx, hstart, Option.map_some]
  refine congrArg some ?_
  split <;> rfl

theorem Flt.start_amps (c : Commissioning) (clock : Nat) (now : Moment) (l : Lmu) {a : Nat} (ha : a < c.ampCount) :
    (Flt.start c clock now l).amps[a]? = some ⟨0, .clear, .none, clock, false, l.isLow a⟩ := by
  simp [Flt.start, Flt.takeClasses, ha, AmpEntry.start]

/-- The start sets ALARM exactly for the dark inputs. -/
theorem Flt.start_alarm (c : Commissioning) (clock : Nat) (now : Moment) (l : Lmu) :
    (Flt.start c clock now l).alarm = true ↔ ∃ a < c.ampCount, l.isDark a = true := by
  have hlen : (Flt.start c clock now l).spans.length = c.ampCount := by simp [Flt.start, Flt.takeClasses]
  have hamps : ∀ e ∈ (Flt.start c clock now l).amps, e.state = .clear :=
    forall_mem_mapIdx (P := fun e => e.state = .clear) (fun e he => by rw [List.eq_of_mem_replicate he]; rfl)
      fun _ _ he => he
  have hpumps : ∀ e ∈ (Flt.start c clock now l).pumps, e.state = .clear := fun e he => by
    rw [List.eq_of_mem_replicate he]
    rfl
  rw [Flt.alarm_iff]
  constructor
  · rintro (⟨e, he, hf⟩ | ⟨e, he, hf⟩ | ⟨e, he, hf⟩)
    · obtain ⟨a, ha⟩ := List.getElem?_of_mem he
      have hlt := hlen ▸ (List.getElem?_eq_some_iff.1 ha).1
      rw [Flt.start_spans c clock now l hlt] at ha
      refine ⟨a, hlt, ?_⟩
      by_contra hd
      rw [if_neg hd] at ha
      cases ha
      cases hf
    · cases (hamps e he).symm.trans hf
    · cases (hpumps e he).symm.trans hf
  · rintro ⟨a, ha, hd⟩
    have hspan := Flt.start_spans c clock now l ha
    rw [if_pos hd] at hspan
    exact .inl ⟨_, List.mem_of_getElem? hspan, rfl⟩

theorem Lmu.isDark_iff (l : Lmu) (a : Nat) : l.isDark a = true ↔ l.cls? a = some .dark := by simp [Lmu.isDark]

end

/-- Settles O11: the pumps from their floors to their bases (`Pump.ramp_start`), the table entry by entry, and the marker from the
two conditions that a start can set. -/
theorem declareStartsThePumpsAndTheTable : Obligations.DeclareStartsThePumpsAndTheTable := by
  intro raw s hheld hphase hc c
  have hspans {l : Lmu} {a : Nat} (ha : a < c.ampCount) {cls : LightClass} (hcls : l.cls? a = some cls) :
      (Flt.start c s.cfl.clock s.now l).spans[a]? =
        some (if cls = .dark then ⟨255, .faulty, .lossOfLight, s.cfl.clock, .none⟩
          else ⟨0, .clear, .none, s.cfl.clock, .none⟩) := by
    rw [Flt.start_spans c _ _ l ha]
    simp [Lmu.isDark, hcls]
  have hmarker (h : (s.declare raw).flt.alarm = true ↔ ∃ a < 2 * c.n, (s.declare raw).lmu.cls? a = some .dark) :
      ∃ x, (s.declare raw).ttx = .sending x ∧
        ((∃ a < 2 * c.n, (s.declare raw).lmu.cls? a = some .dark) → x.marker = .alarm) ∧
          ((∀ a < 2 * c.n, (s.declare raw).lmu.cls? a ≠ some .dark) → x.marker = .nominal) := by
    have hnow : (s.declare raw).markerNow = if (s.declare raw).flt.alarm then .alarm else .nominal := by
      have hiso : (s.declare raw).pbc.isolating = false := Pbc.start_isolating s.pbc s.cfg s.now
      unfold State.markerNow
      rw [hiso]
      rfl
    refine ⟨_, rfl, fun hdark => ?_, fun hlit => ?_⟩
    · exact hnow.trans (if_pos (h.2 hdark))
    · refine hnow.trans (if_neg fun ha => ?_)
      obtain ⟨a, ha, hd⟩ := h.1 ha
      exact hlit a ha hd
  have halarm : (s.declare raw).flt.alarm = true ↔ ∃ a < 2 * c.n, (s.declare raw).lmu.cls? a = some .dark := by
    refine (Flt.start_alarm c s.cfl.clock s.now _).trans ?_
    simp only [Lmu.isDark_iff]
    rfl
  refine ⟨_, exec_declareValid hheld hphase, fun j hj => ?_, ?_, rfl, rfl, rfl, rfl, rfl, rfl, fun hl => ?_, ?_, rfl, rfl, rfl,
    ?_, ?_, fun a ha cls hcls => ⟨hspans ha hcls, ?_⟩, rfl, hmarker halarm⟩
  · exact (Pbc.start_pumps hc s.pbc s.now hj).trans (congrArg some (Pump.ramp_start _ _ (hc.pump_order j).1))
  · exact (State.declare_shaped s raw rfl).2.2.2.2.2.2.2.1
  · have hv := hl.invalid_of_phase (by rw [hphase]; decide)
    obtain ⟨-, -, -, h1, h2, h3⟩ := (hl.2.2.2.2.2 hv).pbc_fields
    exact ⟨h1, h2, h3⟩
  · show (quietPositions c.position).map _ = _
    simp only [quietPositions, Bool.decide_and]
    rfl
  · simp [State.declare, State.startSending, Flt.start, Flt.takeClasses, Commissioning.ampCount, c]
  · simp [State.declare, State.startSending, Flt.start, Flt.takeClasses, Commissioning.ampCount, c]
  · refine (Flt.start_amps c s.cfl.clock s.now _ ha).trans ?_
    have hcls' : Lmu.cls? { s.lmu.firstSet s.cfg raw with epoch := some (s.now + Config.sampleEpoch) } a = some cls := hcls
    rw [Lmu.isLow, hcls']
    cases cls <;> rfl

/-! ### The banks (R35, R42, R45, R55, R72) -/

/-- The positions kept in order, each once, are those that pass without their repeats. -/
theorem foldl_keep_eq_eraseDups (ok : Nat → Bool) (l kept : List Nat) :
    l.foldl (fun kept q => if ok q && !kept.contains q then kept ++ [q] else kept) kept =
      kept ++ ((l.filter ok).filter fun q => !kept.contains q).eraseDups := by
  induction l generalizing kept with
  | nil => simp
  | cons q rest ih =>
    have hstep : (q :: rest).foldl (fun kept q => if ok q && !kept.contains q then kept ++ [q] else kept) kept =
        rest.foldl (fun kept q => if ok q && !kept.contains q then kept ++ [q] else kept)
          (if ok q && !kept.contains q then kept ++ [q] else kept) := rfl
    rw [hstep]
    by_cases hq : ok q = true
    · rw [List.filter_cons_of_pos hq]
      by_cases hk : q ∈ kept
      · rw [if_neg (by simp [hk]), ih, List.filter_cons_of_neg (by simp [hk])]
      · have hnew : (rest.filter ok).filter (fun r => !(kept ++ [q]).contains r) =
            ((rest.filter ok).filter fun r => !kept.contains r).filter (fun r => !r == q) := by
          rw [List.filter_filter (l := rest.filter ok)]
          refine List.filter_congr fun r _ => ?_
          by_cases hr : r = q <;> simp [hr]
        rw [if_pos (by simp [hq, hk]), ih, List.filter_cons_of_pos (by simp [hk]), List.eraseDups_cons, hnew,
          List.append_assoc]
        rfl
    · rw [if_neg (by simp [hq]), ih, List.filter_cons_of_neg hq]

theorem sidePositions_eq (p : Nat) (b : Bank) :
    sidePositions p b = match b with
      | .e => List.range' 1 (p - 1)
      | .w => (List.range' (p + 1) (254 - p)).reverse := by
  cases b
  · rw [sidePositions, List.range'_eq_map_range]
    exact List.map_congr_left fun i _ => Nat.add_comm i 1
  · apply List.ext_getElem
    · simp [sidePositions, Config.lastPosition]
    · intro i h1 h2
      simp only [sidePositions, List.length_map, List.length_range, Config.lastPosition] at h1
      simp only [sidePositions, Config.lastPosition, List.getElem_map, List.getElem_range, List.getElem_reverse,
        List.getElem_range', List.length_range']
      omega

/-- The position is a byte of the record (R190). -/
theorem State.cfg_position_lt (s : State) : s.cfg.position < 256 := by
  rw [show s.cfg.position = (wordAt s.cfl.image 1).toNat / 256 from field_high _]
  omega

theorem pinnable_eq {c : Commissioning} (hp : c.position < 256) (b : Bank) (q : Nat) :
    pinnable c b q = decide (q ∈ sidePositions c.position b ∧ c.west ≤ q ∧ q ≤ c.east) := by
  have hside (h : q ∈ sidePositions c.position b) : 1 ≤ q ∧ q ≤ Config.lastPosition := by
    unfold Config.lastPosition
    cases b
    · have := mem_sidePositions.1 h
      dsimp only at this
      omega
    · have := mem_sidePositions.1 h
      dsimp only [Config.lastPosition] at this
      omega
  rw [Bool.eq_iff_iff]
  simp only [pinnable, Bool.and_eq_true, decide_eq_true_eq, List.contains_iff_mem]
  constructor
  · rintro ⟨⟨⟨-, hs⟩, hw⟩, he⟩
    exact ⟨hs, hw, he⟩
  · rintro ⟨hs, hw, he⟩
    exact ⟨⟨⟨hside hs, hs⟩, hw⟩, he⟩

/-- R55: the candidates on the bank's side and within the line, without repeats. -/
theorem pinnedPositions_eq {c : Commissioning} (hp : c.position < 256) (b : Bank) :
    pinnedPositions c b =
      ((pinCandidates c b).filter fun q =>
        decide (q ∈ sidePositions c.position b ∧ c.west ≤ q ∧ q ≤ c.east)).eraseDups := by
  have hok : (fun q => decide (q ∈ sidePositions c.position b ∧ c.west ≤ q ∧ q ≤ c.east)) = pinnable c b :=
    funext fun q => (pinnable_eq hp b q).symm
  rw [hok, pinnedPositions, foldl_keep_eq_eraseDups]
  simp

theorem pinnedPositions_length_le (c : Commissioning) (b : Bank) : (pinnedPositions c b).length ≤ 3 := by
  have hfold (l kept : List Nat) :
      (l.foldl (fun kept q => if pinnable c b q && !kept.contains q then kept ++ [q] else kept) kept).length ≤
        kept.length + l.length := by
    induction l generalizing kept with
    | nil => exact Nat.le_refl _
    | cons q rest ih =>
      refine (ih _).trans ?_
      dsimp only
      split
      · simp only [List.length_append, List.length_cons, List.length_nil]
        omega
      · simp only [List.length_cons]
        omega
  refine (hfold (pinCandidates c b) []).trans ?_
  cases b <;> exact Nat.le_refl 3

/-- The trackers that a bank starts with, the pinned ones first (R55, R65). -/
theorem Tracker.start_eq (pinned : List Nat) (i : Nat) :
    Tracker.start pinned i =
      match pinned[i]? with
      | some q => ⟨some .pinned, .acquiring, some q, 0, none, .hunting, []⟩
      | none => ⟨some .capture, .idle, none, 0, none, .hunting, []⟩ := by
  unfold Tracker.start
  cases pinned[i]? <;> rfl

/-- The records of the trackers that a bank starts with (R72). -/
theorem RxBank.pinnedRecords_of_start {x : RxBank} {pinned : List Nat} {count : Nat} (hlen : pinned.length ≤ count)
    (hx : x.trackers = (List.range count).map (Tracker.start pinned)) (now : Moment) (b : Bank) :
    x.pinnedRecords now b = pinned.map (Neighbour.vacant now b) := by
  have heach (i : Nat) : (if (Tracker.start pinned i).kind = some .pinned then
      (Tracker.start pinned i).pos.map (Neighbour.vacant now b) else none) = pinned[i]?.map (Neighbour.vacant now b) := by
    rw [Tracker.start_eq]
    cases pinned[i]? <;> rfl
  simp only [RxBank.pinnedRecords, hx, List.filterMap_map]
  refine (List.filterMap_congr fun i _ => heach i).trans ?_
  rw [← List.map_filterMap, filterMap_range_getElem?, List.take_of_length_le hlen]

theorem RxBank.start_outbound {c : Commissioning} {b : Bank} (h : c.isOutbound b = true) (now : Moment) (l : Lmu)
    (x : RxBank) :
    x.start c b now l = { x with map := (sidePositions c.position b).map MapEntry.reset, trackers := [] } := by
  rw [RxBank.start, if_pos h]

theorem RxBank.start_inbound {c : Commissioning} {b : Bank} (h : c.isOutbound b = false) (now : Moment) (l : Lmu)
    (x : RxBank) :
    x.start c b now l =
      { state := if l.isDark (c.supAmp b) then .darkWatch else .running
        map := (sidePositions c.position b).map fun q => ⟨q, .silent, none, 0, l.isDark (c.supAmp b)⟩
        sweep := if l.isDark (c.supAmp b) then x.sweep else min (x.sweep + 1) (2 ^ 32 - 1)
        dwell := if l.isDark (c.supAmp b) then none else (sidePositions c.position b).head?.map fun q => ⟨q, now + 50⟩
        confirm := none
        trackers := (List.range (if c.role = .terminal then 12 else 6)).map (Tracker.start (pinnedPositions c b)) } := by
  rw [RxBank.start, if_neg (by rw [h]; decide)]
  unfold RxBank.fromClass
  cases l.isDark (c.supAmp b)
  · rfl
  · simp only [if_true, List.map_map]
    rfl

theorem Commissioning.isOutbound_eq (c : Commissioning) (b : Bank) :
    c.isOutbound b = decide (c.role = .terminal ∧ (b = .e ↔ c.position = c.west)) := by
  cases b <;> by_cases h1 : c.role = .terminal <;> by_cases h2 : c.position = c.west <;>
    simp [Commissioning.isOutbound, h1, h2]

/-- Settles O12: an outbound bank lends its trackers, the other one starts from the class of its input with its candidates pinned;
the records are those of the pinned trackers. -/
theorem declareStartsTheBanks : Obligations.DeclareStartsTheBanks := by
  intro raw s hheld hphase c p side candidates pins outbound vacant
  have hside (b : Bank) : sidePositions c.position b = side b :=
    (sidePositions_eq _ b).trans (by cases b <;> rfl)
  have hpins (b : Bank) : pinnedPositions c b = pins b := by
    rw [pinnedPositions_eq s.cfg_position_lt, hside]
    cases b <;> rfl
  have hout (b : Bank) : outbound b = c.isOutbound b := (c.isOutbound_eq b).symm
  have hrecords (b : Bank) : ((s.declare raw).bank b).pinnedRecords s.now b =
      if outbound b then [] else (pins b).map (vacant b) := by
    rw [State.declare_bank, hout]
    cases h : c.isOutbound b
    · rw [RxBank.start_inbound h]
      refine (RxBank.pinnedRecords_of_start ?_ rfl _ _).trans (congrArg _ (hpins b))
      refine (pinnedPositions_length_le c b).trans ?_
      split <;> decide
    · rw [RxBank.start_outbound h]
      rfl
  refine ⟨_, exec_declareValid hheld hphase, fun b hb => ?out, fun b dark hb hdark => ?inb, ?records⟩
  case out =>
    rw [State.declare_bank, RxBank.start_outbound ((hout b).symm.trans hb), hside]
    rfl
  case inb =>
    have hdark' : Lmu.isDark { s.lmu.firstSet s.cfg raw with epoch := some (s.now + Config.sampleEpoch) } (c.supAmp b) =
        dark := hdark.symm ▸ beq_eq_decide _ _
    rw [State.declare_bank, RxBank.start_inbound ((hout b).symm.trans hb), hdark', hside, hpins]
    exact congrArg (RxBank.mk _ _ _ _ _) (List.map_congr_left fun i _ => Tracker.start_eq _ i)
  case records =>
    rw [← hrecords, ← hrecords]
    rfl

end Sys2Proof.Machine
end

section
/-! Sample sets (O13, O16): what a set leaves in the meters, and what its class changes leave in the Suspect Table and in the
banks. -/

namespace Sys2Proof.Machine

/-- The state that a sample set leaves before its class changes are delivered (R3, R6). -/
def State.sampled (s : State) (raw : Readings) (d : Moment) : State :=
  { s with now := max s.now d, lmu := { s.lmu.sampleSet s.cfg raw with epoch := some (d + Config.sampleEpoch) } }

theorem exec_sampleSet_eq (raw : Readings) {s : State} {d : Moment} (h : s.lmu.epoch = some d) :
    exec (.sampleSet raw) s =
      .next ((classChanges s.lmu (s.sampled raw d).lmu).foldl State.deliverClass (s.sampled raw d)).report := by
  simp only [exec, execSampleSet, h]
  rfl

/-! ### The meters (O13) -/

theorem Lmu.sampleSet_outputs_getElem? (c : Commissioning) (raw : Readings) (l : Lmu) {a : Nat} (ha : a < 8) :
    (l.sampleSet c raw).outputs[a]? = l.outputs[a]?.map (OutputMeter.sample c raw.output[a]) := by
  cases h : l.outputs[a]? <;> simp [Lmu.sampleSet, List.getElem?_zipWith, h, ha]

theorem clampReading_eq (x : Int) : clampReading x = max (-6000) (min 3000 x) := by
  unfold clampReading clampTo Config.powerMin Config.powerMax
  omega

theorem smooth_eq (k : Nat) (old r : Int) :
    smooth k old r = if k = 0 then r else old + (r - old + 2 ^ (k - 1)) / 2 ^ k := by
  unfold smooth smoothStep
  split
  · omega
  · rfl

/-- Class changes touch the FLT and the banks alone (R14). -/
theorem State.deliverClasses_eq (u : State) (l : List ClassChange) :
    l.foldl State.deliverClass u =
      { u with flt := (l.foldl State.deliverClass u).flt, rbe := (l.foldl State.deliverClass u).rbe,
               rbw := (l.foldl State.deliverClass u).rbw } := by
  induction l generalizing u with
  | nil => rfl
  | cons ev rest ih =>
    have hone : u.deliverClass ev =
        { u with flt := (u.deliverClass ev).flt, rbe := (u.deliverClass ev).rbe, rbw := (u.deliverClass ev).rbw } := by
      unfold State.deliverClass
      dsimp only
      split <;> split <;> rfl
    rw [List.foldl_cons, ih, hone]

/-- Settles O13, meter by meter from the samples; the class changes leave the meters alone. -/
theorem sampleSetSmoothsEveryMeter : Obligations.SampleSetSmoothsEveryMeter := by
  intro raw d s hepoch k smoothed
  refine ⟨_, exec_sampleSet_eq raw hepoch, ?frame, State.report_markerFollows (by simp [State.sampled]), ?timer, ?meters⟩
  case frame =>
    rw [State.deliverClasses_eq]
    rfl
  case timer => simp [State.sampled, Config.sampleEpoch]
  case meters =>
    intro a ha rIn rOut
    have hin : ∀ m, s.lmu.inputs[a]? = some m →
        (s.sampled raw d).lmu.inputs[a]? = some (m.sample s.cfg raw.input[a]) := fun m hm => by
      rw [State.sampled]
      exact (Lmu.sampleSet_inputs_getElem? s.cfg raw s.lmu ha).trans (by rw [hm]; rfl)
    have hout : ∀ m, s.lmu.outputs[a]? = some m →
        (s.sampled raw d).lmu.outputs[a]? = some (m.sample s.cfg raw.output[a]) := fun m hm => by
      rw [State.sampled]
      exact (Lmu.sampleSet_outputs_getElem? s.cfg raw s.lmu ha).trans (by rw [hm]; rfl)
    simp only [State.report_lmu, State.deliverClasses_lmu]
    refine ⟨fun last old cls h => ?_, fun last old h => ?_, fun h => hin _ h, fun h => hout _ h⟩
    · refine ⟨nextClass s.cfg (smooth s.cfg.shift old (clampReading raw.input[a])) cls, (hin _ h).trans ?_⟩
      rw [InputMeter.sample, smooth_eq, clampReading_eq]
    · rw [hout _ h, OutputMeter.sample, smooth_eq, clampReading_eq]

/-! ### The class changes (O16) -/

/-- The event of one amplifier's input meter, if its class has changed (R13). -/
def classChangeAt (l l' : Lmu) (a : Nat) : Option ClassChange :=
  match l.cls? a, l'.cls? a with
  | some x, some y => if x = y then none else some ⟨a, x, y⟩
  | _, _ => none

theorem classChanges_eq (l l' : Lmu) : classChanges l l' = (List.range 8).filterMap (classChangeAt l l') := rfl

theorem classChangeAt_amp {l l' : Lmu} {a : Nat} {ev : ClassChange} (h : classChangeAt l l' a = some ev) : ev.amp = a := by
  unfold classChangeAt at h
  split at h
  · split at h
    · cases h
    · cases h
      rfl
  · cases h

section
variable {α : Type} {f : α → ClassChange → α} {a : Nat}

theorem foldl_classChangeAt_of_not_mem (hf : ∀ y ev, ev.amp ≠ a → f y ev = y) (l l' : Lmu) {is : List Nat} (his : a ∉ is)
    (y : α) : (is.filterMap (classChangeAt l l')).foldl f y = y := by
  induction is with
  | nil => rfl
  | cons i is ih =>
    rw [List.mem_cons, not_or] at his
    rw [List.filterMap_cons]
    split
    · exact ih his.2
    · next ev hev =>
      rw [List.foldl_cons, hf y ev (classChangeAt_amp hev ▸ Ne.symm his.1)]
      exact ih his.2

/-- Of a sample set's events, at most the amplifier's own reaches what only that amplifier's events touch. -/
theorem foldl_classChanges (hf : ∀ y ev, ev.amp ≠ a → f y ev = y) {l l' : Lmu} {x x' : LightClass} (ha : a < 8)
    (hx : l.cls? a = some x) (hx' : l'.cls? a = some x') (y : α) :
    (classChanges l l').foldl f y = if x = x' then y else f y ⟨a, x, x'⟩ := by
  have hsplit : List.range 8 = List.range a ++ a :: List.range' (a + 1) (7 - a) := by
    rw [List.range_eq_range', List.range_eq_range', ← List.range'_succ (s := a) (n := 7 - a) (step := 1)]
    have happ := List.range'_append_1 (s := 0) (m := a) (n := 7 - a + 1)
    rw [Nat.zero_add] at happ
    rw [happ]
    congr 1
    omega
  have hat : classChangeAt l l' a = if x = x' then none else some ⟨a, x, x'⟩ := by
    rw [classChangeAt, hx, hx']
  have hbefore : a ∉ List.range a := by simp
  have hafter : a ∉ List.range' (a + 1) (7 - a) := by simp
  rw [classChanges_eq, hsplit, List.filterMap_append, List.foldl_append, foldl_classChangeAt_of_not_mem hf _ _ hbefore,
    List.filterMap_cons, hat]
  by_cases h : x = x'
  · rw [if_pos h, if_pos h]
    exact foldl_classChangeAt_of_not_mem hf _ _ hafter y
  · rw [if_neg h, if_neg h]
    exact foldl_classChangeAt_of_not_mem hf _ _ hafter _

end

theorem State.deliverClasses_flt (s : State) (l : List ClassChange) :
    (l.foldl State.deliverClass s).flt = l.foldl (fun f ev => f.classChange s.cfg s.cfl.clock ev) s.flt := by
  induction l generalizing s with
  | nil => rfl
  | cons ev rest ih => rw [List.foldl_cons, ih, State.deliverClass_cfg, State.deliverClass_cfl, State.deliverClass_flt]; rfl

theorem State.deliverClasses_bank (s : State) (l : List ClassChange) (b : Bank) :
    (l.foldl State.deliverClass s).bank b =
      l.foldl (fun x ev => if ev.amp = s.cfg.supAmp b then x.hearClass s.now ev.new else x) (s.bank b) := by
  induction l generalizing s with
  | nil => rfl
  | cons ev rest ih => rw [List.foldl_cons, ih, State.deliverClass_cfg, State.deliverClass_now, State.deliverClass_bank]; rfl

/-- What a class change makes of the span entry of its input (R109, R110). -/
def SpanEntry.hear (c : Commissioning) (clock : Nat) (ev : ClassChange) (e : SpanEntry) : SpanEntry :=
  if ev.new = .dark then e.declareDark clock else if ev.old = .dark then e.leaveDark c clock else e

/-- What a class change makes of the entry of its amplifier (R113). -/
def AmpEntry.hear (ev : ClassChange) (e : AmpEntry) : AmpEntry :=
  { e with inputLow := ev.new == .dark || ev.new == .faint }

theorem getElem?_modify_eq_ite {α : Type} (f : α → α) (l : List α) (i j : Nat) :
    (l.modify i f)[j]? = if i = j then l[j]?.map f else l[j]? := by
  rw [List.getElem?_modify]
  split
  · rfl
  · cases l[j]? <;> rfl

section
variable {c : Commissioning} {clock : Nat} {l l' : Lmu} {a : Nat} {x x' : LightClass}

/-- What a sample set's events leave of a span entry. -/
theorem foldl_classChange_spans (ha : a < 8) (hx : l.cls? a = some x) (hx' : l'.cls? a = some x') (f : Flt) :
    ((classChanges l l').foldl (fun f ev => f.classChange c clock ev) f).spans[a]? =
      if x = x' then f.spans[a]? else f.spans[a]?.map (SpanEntry.hear c clock ⟨a, x, x'⟩) := by
  rw [← List.foldl_hom (fun f : Flt => f.spans[a]?)
    (g₂ := fun e? (ev : ClassChange) => if ev.amp = a then e?.map (SpanEntry.hear c clock ev) else e?)
    (H := fun f ev => (getElem?_modify_eq_ite _ f.spans ev.amp a).symm),
    foldl_classChanges (fun y ev h => if_neg h) ha hx hx', if_pos rfl]

/-- What they leave of an amplifier's entry. -/
theorem foldl_classChange_amps (ha : a < 8) (hx : l.cls? a = some x) (hx' : l'.cls? a = some x') (f : Flt) :
    ((classChanges l l').foldl (fun f ev => f.classChange c clock ev) f).amps[a]? =
      if x = x' then f.amps[a]? else f.amps[a]?.map (AmpEntry.hear ⟨a, x, x'⟩) := by
  rw [← List.foldl_hom (fun f : Flt => f.amps[a]?)
    (g₂ := fun e? (ev : ClassChange) => if ev.amp = a then e?.map (AmpEntry.hear ev) else e?)
    (H := fun f ev => (getElem?_modify_eq_ite _ f.amps ev.amp a).symm),
    foldl_classChanges (fun y ev h => if_neg h) ha hx hx', if_pos rfl]

/-- They leave the rest of the FLT. -/
theorem foldl_classChange_rest (events : List ClassChange) (f : Flt) :
    events.foldl (fun f ev => f.classChange c clock ev) f =
      { f with spans := (events.foldl (fun f ev => f.classChange c clock ev) f).spans,
               amps := (events.foldl (fun f ev => f.classChange c clock ev) f).amps } := by
  induction events generalizing f with
  | nil => rfl
  | cons ev rest ih => rw [List.foldl_cons, ih, Flt.classChange]

end

/-- A sample set reads the eight input meters, so no other one has a class after it. -/
theorem State.lt_of_sampled_cls? {s : State} {raw : Readings} {d : Moment} {a : Nat} {x : LightClass}
    (h : (s.sampled raw d).lmu.cls? a = some x) : a < 8 := by
  by_contra ha
  have hnone : (s.sampled raw d).lmu.inputs[a]? = none := by
    rw [List.getElem?_eq_none]
    simp only [State.sampled, Lmu.sampleSet, List.length_zipWith, Vector.length_toList]
    omega
  rw [Lmu.cls?, hnone] at h
  cases h

/-- What a sample set leaves in the bank whose supervisory input had the class `x` and has the class `x'` (R14, R36). -/
theorem State.sampled_bank {s : State} {raw : Readings} {d : Moment} {b : Bank} {x x' : LightClass}
    (hx : s.lmu.cls? (s.cfg.supAmp b) = some x) (hx' : (s.sampled raw d).lmu.cls? (s.cfg.supAmp b) = some x') :
    ((classChanges s.lmu (s.sampled raw d).lmu).foldl State.deliverClass (s.sampled raw d)).bank b =
      if x = x' then s.bank b else (s.bank b).hearClass (max s.now d) x' := by
  have hf (y : RxBank) (ev : ClassChange) (h : ev.amp ≠ s.cfg.supAmp b) :
      (if ev.amp = s.cfg.supAmp b then y.hearClass (max s.now d) ev.new else y) = y := if_neg h
  rw [State.deliverClasses_bank]
  refine (foldl_classChanges hf (State.lt_of_sampled_cls? hx') hx hx' _).trans ?_
  rw [if_pos rfl]
  rfl

theorem RxBank.hearClass_of_not_dark {now : Moment} {x' : LightClass} {x : RxBank} (hc : x' ≠ .dark)
    (hx : x.state ≠ .darkWatch) : x.hearClass now x' = x := by
  unfold RxBank.hearClass
  split
  · rfl
  · exact if_neg hc
  · exact absurd ‹_› hx
  · exact if_neg hc

/-- Settles O16: an entry and a bank hear at most the event of their own amplifier. -/
theorem classChangesReachTheTableAndTheBanks : Obligations.ClassChangesReachTheTableAndTheBanks := by
  intro raw d s hepoch
  refine ⟨_, exec_sampleSet_eq raw hepoch, ?table, ?banks, ?rest⟩
  case table =>
    simp only [State.report_lmu, State.report_flt, State.deliverClasses_lmu, State.deliverClasses_flt]
    intro a x x' hx hx'
    have ha : a < 8 := State.lt_of_sampled_cls? hx'
    refine ⟨fun e he => ?_, fun e he => ?_⟩
    · rw [foldl_classChange_spans ha hx hx', show (s.sampled raw d).flt.spans[a]? = some e from he]
      by_cases h : x = x'
      · rw [if_pos h, if_neg (fun hn => hn.1 h), if_neg (fun hn => hn.1 h)]
      rw [if_neg h, Option.map_some]
      show some (if x' = .dark then e.declareDark s.cfl.clock else if x = .dark then e.leaveDark s.cfg s.cfl.clock else e) = _
      by_cases hnew : x' = .dark
      · rw [if_pos hnew, if_pos ⟨h, hnew⟩, SpanEntry.declareDark, sinceOf]
        simp only [eq_comm]
        rfl
      · have hrest : ¬(x ≠ x' ∧ x' = .dark) := fun hn => hnew hn.2
        rw [if_neg hnew, if_neg hrest]
        by_cases hold : x = .dark
        · rw [if_pos hold, if_pos ⟨h, hold⟩]
          rfl
        · rw [if_neg hold, if_neg (fun hn => hold hn.2)]
    · rw [foldl_classChange_amps ha hx hx', show (s.sampled raw d).flt.amps[a]? = some e from he]
      split <;> rfl
  case banks =>
    intro b x x' hx hx'
    rw [State.report_lmu, State.deliverClasses_lmu] at hx'
    have hbank := State.sampled_bank hx hx'
    generalize hu : (classChanges s.lmu (s.sampled raw d).lmu).foldl State.deliverClass (s.sampled raw d) = u at hbank
    rw [show u.report.bank b = u.bank b by cases b <;> rfl, hbank]
    refine ⟨fun h => if_pos h, fun h hd hs => ?_, fun h hd hs => ?_, fun h hd hs => ?_, fun hd hs => ?_, fun hs => ?_⟩
    · rw [if_neg h, RxBank.hearClass, hs]
      refine (if_pos hd).trans (congrArg (RxBank.mk _ _ _ _ _) (List.map_congr_left fun k _ => ?_))
      simp only [Tracker.isIdle, beq_iff_eq]
      rfl
    · rw [if_neg h, RxBank.hearClass, hs]
      exact if_pos hd
    · rw [if_neg h, RxBank.hearClass, hs]
      exact if_neg hd
    · rw [RxBank.hearClass_of_not_dark hd hs, ite_self]
    · rw [RxBank.hearClass, hs]
      exact ite_self _
  case rest =>
    rw [State.report_flt, State.deliverClasses_flt, foldl_classChange_rest]
    exact ⟨rfl, rfl, rfl, rfl, rfl⟩

end Sys2Proof.Machine
end

section
/-! The receive banks (O17, O18, O19): the wake, the observed class, and what a dwell leaves in the map and in the sweep. -/

namespace Sys2Proof.Machine

/-! ### The wake (O17) -/

theorem firstPosition_eq (p : Nat) (b : Bank) :
    firstPosition p b = match b with
      | .e => if 1 < p then some 1 else none
      | .w => if p < 254 then some 254 else none := by
  rw [firstPosition, sidePositions_eq]
  cases b
  · dsimp only
    rw [List.head?_range']
    by_cases h : 1 < p
    · rw [if_neg (by omega), if_pos h]
    · rw [if_pos (by omega), if_neg h]
  · dsimp only
    rw [List.head?_reverse, List.getLast?_range']
    by_cases h : p < 254
    · rw [if_neg (by omega), if_pos h, Option.some_inj]
      omega
    · rw [if_pos (by omega), if_neg h]

theorem RxBank.wake_eq (p : Nat) (b : Bank) (now : Moment) (x : RxBank) :
    x.wake p b now =
      { state := .running
        map := x.map.map fun e => { e with held := false }
        sweep := min (x.sweep + 1) (2 ^ 32 - 1)
        dwell := (firstPosition p b).map fun q => ⟨q, now + 50⟩
        confirm := none
        trackers := x.trackers.map fun k => { k with reception := .hunting } } := rfl

/-- Settles O17: the wake of the bank, its first dwell written out for each side. -/
theorem confirmedWakeResumesTheSweep : Obligations.ConfirmedWakeResumesTheSweep := by
  intro b d s hstate hconfirm
  simp only [exec]
  rw [execConfirmationTimerExpiry, hstate, hconfirm]
  dsimp only
  rw [RxBank.wake_eq, firstPosition_eq]
  cases b
  · by_cases h : 1 < s.cfg.position <;> simp only [h, if_true, if_false] <;> rfl
  · by_cases h : s.cfg.position < 254 <;> simp only [h, if_true, if_false] <;> rfl

/-! ### The observed class (O18) -/

/-- Settles O18: the deepest offset is found, and among equal ones the tests go by marker priority. -/
theorem observedClassIsTheDeepestMarker : Obligations.ObservedClassIsTheDeepestMarker := by
  intro d m depth priority presence
  have hall (P : Marker → Prop) : (∀ x, P x) ↔ P .isolated ∧ P .alarm ∧ P .probing ∧ P .nominal :=
    ⟨fun h => ⟨h _, h _, h _, h _⟩, fun ⟨h1, h2, h3, h4⟩ x => by cases x <;> assumption⟩
  constructor
  · rw [hall]
    unfold observedClass Config.depthThreshold
    simp only [depth]
    split
    · simp only [iff_true]
      omega
    · next h =>
      refine iff_of_false (by omega) ?_
      split
      · decide
      split
      · decide
      split <;> decide
  · intro hdeep hother
    rw [hall] at hother
    obtain ⟨hi, ha, hp, hn⟩ := hother
    unfold observedClass Config.depthThreshold
    cases m <;> simp only [depth, priority, presence, reduceCtorEq, ne_eq, not_false_eq_true, forall_const] at hdeep hi ha hp hn ⊢
    case isolated => rw [if_neg (by omega), if_pos (by omega)]
    case alarm => rw [if_neg (by omega), if_neg (by omega), if_pos (by omega)]
    case probing => rw [if_neg (by omega), if_neg (by omega), if_neg (by omega), if_pos (by omega)]
    case nominal => rw [if_neg (by omega), if_neg (by omega), if_neg (by omega), if_neg (by omega)]

/-! ### A dwell (O19) -/

theorem Captures.eq_withTrackers {c : Commissioning} {x y : RxBank} {steps : List CaptureStep} (h : Captures c x steps y) :
    y = { x with trackers := y.trackers } := by
  induction h with
  | done => rfl
  | fill _ _ _ ih => exact ih
  | evict _ _ _ _ _ ih => exact ih

/-- A presence change moves a bank's trackers alone (R57, R58). -/
theorem RxBank.recapture_eq_withTrackers (c : Commissioning) (q : Nat) (new : Presence) (x : RxBank) :
    (x.recapture c q new).1 = { x with trackers := (x.recapture c q new).1.trackers } := by
  obtain ⟨steps, -, hcap⟩ := x.recapture_captures c q new
  refine hcap.eq_withTrackers.trans ?_
  rcases x.lettingGo_cases q new with ⟨h, -⟩ | ⟨h, -⟩ <;> rw [h]
  rfl

theorem State.followCaptures_eq (u : State) (b : Bank) (steps : List CaptureStep) :
    u.followCaptures b steps =
      { u with records := (u.followCaptures b steps).records, pbc := (u.followCaptures b steps).pbc } := by
  unfold State.followCaptures
  induction steps generalizing u with
  | nil => rfl
  | cons step rest ih =>
    rw [List.foldl_cons, ih]
    cases step <;> rfl

/-- What a presence change leaves untouched (R44). -/
theorem State.presenceChange_eq (u : State) (b : Bank) (q : Nat) (old new : Presence) :
    u.presenceChange b q old new =
      { u with rbe := (u.presenceChange b q old new).rbe, rbw := (u.presenceChange b q old new).rbw,
               records := (u.presenceChange b q old new).records, pbc := (u.presenceChange b q old new).pbc,
               tpt := (u.presenceChange b q old new).tpt } := by
  have hoffer (v : State) (changes : List Change) : v.offerAll q changes = { v with tpt := (v.offerAll q changes).tpt } := by
    unfold State.offerAll
    split <;> rfl
  unfold State.presenceChange
  dsimp only
  rw [hoffer, State.followCaptures_eq]
  cases b <;> rfl

/-- The state after a dwell that observed the class `o`. -/
def State.dwelt (s : State) (b : Bank) (w : Dwell) (o : Presence) : State :=
  match (s.bank b).confirms w.pos o with
  | some old => (s.visited b w o).presenceChange b w.pos old o
  | none => s.visited b w o

theorem exec_dwellComplete {b : Bank} {w : Dwell} {s : State} (d : Depths) (hstate : (s.bank b).state = .running)
    (hdwell : (s.bank b).dwell = some w) : exec (.dwellComplete b d) s = .next (s.dwelt b w (observedClass d)) := by
  simp only [exec, execDwellComplete, hstate, hdwell]
  unfold State.dwelt
  cases (s.bank b).confirms w.pos (observedClass d) <;> rfl

section
variable {s : State} {b : Bank} {w : Dwell} {o : Presence}

theorem State.dwelt_of_confirms {old : Presence} (h : (s.bank b).confirms w.pos o = some old) :
    s.dwelt b w o = (s.visited b w o).presenceChange b w.pos old o := by
  rw [State.dwelt, h]

theorem State.dwelt_of_none (h : (s.bank b).confirms w.pos o = none) : s.dwelt b w o = s.visited b w o := by
  rw [State.dwelt, h]

/-- A dwell moves the banks, and through a confirmed change the records, the PBC and the queue (R40, R43, R44). -/
theorem State.dwelt_eq (s : State) (b : Bank) (w : Dwell) (o : Presence) :
    s.dwelt b w o =
      { s with now := max s.now w.ends, rbe := (s.dwelt b w o).rbe, rbw := (s.dwelt b w o).rbw,
               records := (s.dwelt b w o).records, pbc := (s.dwelt b w o).pbc, tpt := (s.dwelt b w o).tpt } := by
  have hvisited : s.visited b w o =
      { s with now := max s.now w.ends, rbe := (s.visited b w o).rbe, rbw := (s.visited b w o).rbw } := by
    cases b <;> rfl
  cases h : (s.bank b).confirms w.pos o with
  | none =>
    rw [State.dwelt_of_none h, hvisited]
  | some old =>
    rw [State.dwelt_of_confirms h, State.presenceChange_eq, hvisited]

theorem State.dwelt_otherBank : (s.dwelt b w o).bank (otherBank b) = s.bank (otherBank b) := by
  cases h : (s.bank b).confirms w.pos o with
  | none => rw [State.dwelt_of_none h, State.visited_otherBank]
  | some old => rw [State.dwelt_of_confirms h, State.presenceChange_otherBank, State.visited_otherBank]

/-- Of the bank visited, a confirmed change moves the trackers alone. -/
theorem State.dwelt_bank :
    (s.dwelt b w o).bank b =
      { ((s.bank b).observeAt w.pos o).moveOn s.cfg.position b w.ends w.pos with
        trackers := ((s.dwelt b w o).bank b).trackers } := by
  cases h : (s.bank b).confirms w.pos o with
  | none => rw [State.dwelt_of_none h, State.visited_bank]
  | some old =>
    rw [State.dwelt_of_confirms h, State.presenceChange_bank, State.visited_bank]
    exact RxBank.recapture_eq_withTrackers _ _ _ _

end

theorem RxBank.confirms_eq_some {x : RxBank} {w : Nat} {o : Presence} {e : MapEntry} (he : findEntry x.map w = some e)
    (ho : o ≠ e.confirmed) (hp : e.pending = some o) : x.confirms w o = some e.confirmed := by
  rw [RxBank.confirms, he]
  exact if_pos ⟨ho, hp⟩

theorem RxBank.confirms_eq_none {x : RxBank} {w : Nat} {o : Presence}
    (h : ∀ e ∈ x.map, e.pos = w → o = e.confirmed ∨ e.pending ≠ some o) : x.confirms w o = none := by
  rw [RxBank.confirms]
  cases he : findEntry x.map w with
  | none => rfl
  | some e =>
    refine if_neg fun hn => ?_
    rcases h e (List.mem_of_find?_eq_some he) (pos_of_findEntry he) with h1 | h1
    · exact hn.1 h1
    · exact h1 hn.2

theorem RxBank.moveOn_of_next {p q : Nat} {b : Bank} {w : Nat} (h : nextPosition p w b = some q) (now : Moment) (x : RxBank) :
    x.moveOn p b now w = { x with dwell := some ⟨q, now + 50⟩ } := by
  rw [RxBank.moveOn, h]
  rfl

theorem RxBank.moveOn_of_last {p : Nat} {b : Bank} {w : Nat} (h : nextPosition p w b = none) (now : Moment) (x : RxBank) :
    x.moveOn p b now w =
      { x with sweep := min (x.sweep + 1) (2 ^ 32 - 1), dwell := (firstPosition p b).map fun q => ⟨q, now + 50⟩ } := by
  rw [RxBank.moveOn, h]
  rfl

theorem RxBank.moveOn_state (p : Nat) (b : Bank) (now : Moment) (w : Nat) (x : RxBank) :
    (x.moveOn p b now w).state = x.state := by
  unfold RxBank.moveOn
  split <;> rfl

theorem RxBank.moveOn_confirm (p : Nat) (b : Bank) (now : Moment) (w : Nat) (x : RxBank) :
    (x.moveOn p b now w).confirm = x.confirm := by
  unfold RxBank.moveOn
  split <;> rfl

theorem State.visited_tpt (s : State) (b : Bank) (w : Dwell) (o : Presence) : (s.visited b w o).tpt = s.tpt := by
  cases b <;> rfl

/-- The change is offered in the role TERMINAL while the configuration is VALID (R44, R181). -/
theorem State.presenceChange_tpt (u : State) (b : Bank) (q : Nat) (old new : Presence) :
    (u.presenceChange b q old new).tpt =
      if u.cfl.valid = true ∧ u.cfg.role = .terminal then
        u.tpt.offer u.cfg u.now u.cfl.clock q (.presence old new)
      else u.tpt := by
  unfold State.presenceChange State.offerAll
  dsimp only
  by_cases h : u.cfl.valid = true ∧ u.cfg.role = .terminal
  · rw [if_pos h, if_pos (by simp [h])]
    simp
  · rw [if_neg h, if_neg (by simpa using h)]
    simp

/-- Settles O19: the bank visited observes and moves on; a confirmed change then moves its trackers alone and is offered. -/
theorem dwellUpdatesTheMapAndTheSweep : Obligations.DwellUpdatesTheMapAndTheSweep := by
  intro b d w s hstate hdwell x o p next first
  have hnext : next = nextPosition p w.pos b := by cases b <;> rfl
  have hfirst : first = firstPosition p b := Eq.trans (by cases b <;> rfl) (firstPosition_eq p b).symm
  have hbank := State.dwelt_bank (s := s) (b := b) (w := w) (o := o)
  refine ⟨_, exec_dwellComplete d hstate hdwell, s.dwelt_eq b w o, fun b' hb => ?other, ?state, ?confirm, ?map,
    fun q hq => ?next, fun hn => ?last, fun h => ?unconfirmed, fun e he ho hp => ?offered⟩
  case other =>
    obtain rfl | rfl := eq_or_eq_otherBank b b'
    · exact absurd rfl hb
    · exact State.dwelt_otherBank
  case state =>
    rw [hbank]
    exact (RxBank.moveOn_state ..).trans hstate
  case confirm =>
    rw [hbank]
    exact RxBank.moveOn_confirm ..
  case map =>
    rw [hbank]
    refine (RxBank.moveOn_keeps ..).1.trans (List.map_congr_left fun e _ => ?_)
    by_cases he : e.pos = w.pos
    · rw [if_pos he, if_neg (not_not_intro he)]
      rfl
    · rw [if_neg he, if_pos he]
  case next =>
    rw [hbank, RxBank.moveOn_of_next (hnext ▸ hq)]
    exact ⟨rfl, rfl⟩
  case last =>
    rw [hbank, RxBank.moveOn_of_last (hnext ▸ hn), hfirst]
    exact ⟨rfl, rfl⟩
  case unconfirmed =>
    rw [State.dwelt_of_none (RxBank.confirms_eq_none h), State.visited_bank, (RxBank.moveOn_keeps ..).2]
    refine ⟨rfl, ?_, ?_, ?_⟩ <;> cases b <;> rfl
  case offered =>
    have hc : (s.bank b).confirms w.pos o = some e.confirmed := RxBank.confirms_eq_some he ho hp
    rw [State.dwelt_of_confirms hc, State.presenceChange_tpt, State.visited_tpt, State.visited_cfg]
    cases b <;> rfl

end Sys2Proof.Machine
end

section
/-! Trackers at work (O21, O22): what a sync found or missing, an expired sync timer and a refused frame make of a tracker. -/

namespace Sys2Proof.Machine

section
variable {s : State} {b : Bank} {i : Nat} {k : Tracker} {bits : List Bool}

/-- A change to tracker `i`, where the bank holds it. -/
theorem State.onTracker_eq (hk : (s.bank b).trackers[i]? = some k) (g : Tracker → Tracker) :
    s.onTracker b i g = s.setBank b { s.bank b with trackers := (s.bank b).trackers.set i (g k) } := by
  rw [State.onTracker, RxBank.onTracker, List.modify_eq_set_getElem?, hk]
  rfl

/-! ### The sync (O21) -/

theorem exec_syncFound_some {after : List Bool} (hk : (s.bank b).trackers[i]? = some k) (hidle : k.state ≠ .idle)
    (hbank : (s.bank b).state ≠ .idle) (h : k.findSync (k.ahead ++ bits) = some after) :
    exec (.syncFound b ⟨i, bits⟩) s =
      .next (s.setBank b { s.bank b with trackers := (s.bank b).trackers.set i (k.foundSync s.now after) }) := by
  simp only [exec, execSyncFound, hk, Tracker.stream, h]
  rw [if_neg (by simpa [Tracker.isIdle] using ⟨hidle, hbank⟩)]
  exact congrArg _ (State.onTracker_eq hk _)

theorem exec_syncFound_none (hk : (s.bank b).trackers[i]? = some k) (h : k.findSync (k.ahead ++ bits) = none) :
    exec (.syncFound b ⟨i, bits⟩) s = .next s := by
  simp only [exec, execSyncFound, hk, Tracker.stream, h, ite_self]

theorem exec_syncMissing (hk : (s.bank b).trackers[i]? = some k) (hstate : k.state = .locked)
    (hexp : k.reception = .expecting) (hlen : 16 ≤ (k.ahead ++ bits).length) (hsync : syncAhead (k.ahead ++ bits) = false) :
    exec (.syncMissing b ⟨i, bits⟩) s =
      .next (s.setBank b
        { s.bank b with trackers := (s.bank b).trackers.set i (k.failLocked (k.ahead ++ bits).tail) }) := by
  simp only [exec, execSyncMissing, hk, Tracker.stream]
  refine (if_pos ⟨hstate, hexp, hlen, hsync⟩).trans ?_
  exact congrArg _ (State.onTracker_eq hk _)

theorem exec_syncMissing_of_not (hk : (s.bank b).trackers[i]? = some k)
    (h : (k.ahead ++ bits).length < 16 ∨ syncAhead (k.ahead ++ bits) = true) :
    exec (.syncMissing b ⟨i, bits⟩) s = .next s := by
  simp only [exec, execSyncMissing, hk, Tracker.stream]
  refine if_neg fun ⟨_, _, hlen, hsync⟩ => ?_
  rcases h with h | h
  · omega
  · rw [hsync] at h
    cases h

theorem exec_syncTimerExpiry {d : Moment} (hk : (s.bank b).trackers[i]? = some k) (hstate : k.state = .locked)
    (hsync : k.sync = some d) :
    exec (.syncTimerExpiry b i) s =
      .next (State.setBank { s with now := max s.now d } b
        { s.bank b with trackers := (s.bank b).trackers.set i k.expire }) := by
  simp only [exec, execSyncTimerExpiry, hk, hstate, hsync]
  exact congrArg _ (State.onTracker_eq (s := s.reach d) (by rw [State.reach]; cases b <;> exact hk) _)

/-- R51: a failure is counted, and the third in a row gives up. -/
theorem Tracker.failLocked_counts (h : k.failed + 1 < 3) (ahead : List Bool) :
    k.failLocked ahead = { k with failed := k.failed + 1, reception := .hunting, ahead := ahead } := by
  rw [Tracker.failLocked, if_pos (show k.failed + 1 < Config.failedFrames from h)]
  rfl

theorem Tracker.failLocked_gives_up (h : 3 ≤ k.failed + 1) (ahead : List Bool) :
    k.failLocked ahead =
      { k with state := .acquiring, failed := 0, sync := none, reception := .hunting, ahead := ahead } := by
  rw [Tracker.failLocked, if_neg (show ¬k.failed + 1 < Config.failedFrames from Nat.not_lt.2 h)]
  rfl

/-! ### A refused frame (O22) -/

theorem exec_frameChecked_refused {q : Nat} (hk : (s.bank b).trackers[i]? = some k) (hread : k.reception = .reading)
    (hpos : k.pos = some q) (hrun : (s.bank b).state = .running) (hf : acceptFrame q (k.ahead ++ bits) = none) :
    exec (.frameChecked b i bits) s =
      .next (s.setBank b { s.bank b with trackers := (s.bank b).trackers.set i (k.failFrame (k.ahead ++ bits)) }) := by
  simp only [exec, execFrameChecked, Tracker.stream, hk, hread, hpos, hf]
  rw [if_pos hrun]
  exact congrArg _ (State.onTracker_eq hk _)

theorem exec_frameChecked_discarded {q : Nat} (hk : (s.bank b).trackers[i]? = some k) (hread : k.reception = .reading)
    (hpos : k.pos = some q) (hrun : (s.bank b).state ≠ .running) :
    exec (.frameChecked b i bits) s =
      .next (s.setBank b
        { s.bank b with trackers := (s.bank b).trackers.set i (k.hunt (resumeHunt (k.ahead ++ bits))) }) := by
  simp only [exec, execFrameChecked, Tracker.stream, hk, hread, hpos, if_neg hrun]
  exact congrArg _ (State.onTracker_eq hk _)

end

/-- R50: what fails a check is not accepted. -/
theorem acceptFrame_eq_none {q : Nat} {bits : List Bool}
    (h : crcPasses bits = false ∨ (readFrame bits).origin ≠ q ∨
      ∃ a ∈ (readFrame bits).amps, a.sIn < -6000 ∨ 3000 < a.sIn ∨ a.sOut < -6000 ∨ 3000 < a.sOut) :
    acceptFrame q bits = none := by
  rw [acceptFrame, if_neg]
  simp only [Bool.and_eq_true, beq_iff_eq]
  rintro ⟨⟨hcrc, horigin⟩, hpowers⟩
  rcases h with h | h | ⟨a, ha, h⟩
  · rw [hcrc] at h
    cases h
  · exact h horigin
  · have hone := List.all_eq_true.1 hpowers a ha
    simp only [inRange, Bool.and_eq_true, decide_eq_true_eq] at hone
    unfold Config.powerMin Config.powerMax at hone
    omega

/-- Settles O21: a sync is found by the hunt of R49 or at the front of the bits, and a missing one is counted. -/
theorem trackersFollowTheSync : Obligations.TrackersFollowTheSync := by
  intro b i k bits s hk pattern stream syncAt with_ reads
  have hsync (n : Nat) : syncAt n ↔ (stream.drop n).take 16 = syncBits := Iff.rfl
  have hfront : syncAhead stream = true ↔ syncAt 0 := syncAhead_iff stream
  refine ⟨fun hi hb hr => ⟨fun n hn hm => ?hunt, fun hn => ?huntOn⟩, fun hi hb hr => ⟨fun h0 => ?found, fun h0 => ?notFound⟩,
    fun hstate hr hlen h0 => ?missing, fun h => ?notMissing, fun d hstate hd => exec_syncTimerExpiry hk hstate hd⟩
  case hunt =>
    refine exec_syncFound_some hk hi hb ?_
    rw [Tracker.findSync, hr]
    exact (huntSync_some stream _).2 ⟨n, hn, hm, rfl⟩
  case huntOn =>
    refine exec_syncFound_none hk ?_
    rw [Tracker.findSync, hr]
    exact (huntSync_none stream).2 hn
  case found =>
    refine exec_syncFound_some hk hi hb ?_
    rw [Tracker.findSync, hr]
    exact if_pos (hfront.2 h0)
  case notFound =>
    refine exec_syncFound_none hk ?_
    rw [Tracker.findSync, hr]
    exact if_neg fun h => h0 (hfront.1 h)
  case missing =>
    have hexec := exec_syncMissing hk hstate hr hlen (Bool.eq_false_iff.2 fun h => h0 (hfront.1 h))
    rw [← List.drop_one] at hexec
    refine ⟨fun hn => ?_, fun hn => ?_⟩
    · rw [hexec, Tracker.failLocked_counts hn]
    · rw [hexec, Tracker.failLocked_gives_up hn]
  case notMissing => exact exec_syncMissing_of_not hk (h.imp_right hfront.2)

/-- Settles O22: the bits resumed are those after the first bit of the sync. -/
theorem refusedFramesOnlyMoveTheTracker : Obligations.RefusedFramesOnlyMoveTheTracker := by
  intro b i q k bits s hk hread hpos stream resumed with_ refused
  have hresumed : resumeHunt stream = resumed := resumeHunt_eq stream
  refine ⟨fun hrun hr hs => ?hunts, fun hrun hr hs hn => ?counted, fun hrun hr hs hn => ?givesUp, fun hrun => ?discarded⟩
  case hunts =>
    rw [exec_frameChecked_refused hk hread hpos hrun (acceptFrame_eq_none hr), Tracker.failFrame, if_neg hs, hresumed]
    rfl
  case counted =>
    rw [exec_frameChecked_refused hk hread hpos hrun (acceptFrame_eq_none hr), Tracker.failFrame, if_pos hs, hresumed,
      Tracker.failLocked_counts hn]
  case givesUp =>
    rw [exec_frameChecked_refused hk hread hpos hrun (acceptFrame_eq_none hr), Tracker.failFrame, if_pos hs, hresumed,
      Tracker.failLocked_gives_up hn]
  case discarded =>
    rw [exec_frameChecked_discarded hk hread hpos hrun, hresumed]
    rfl

end Sys2Proof.Machine
end

section
/-! Frames as bits (O27): numbers and the bits that spell them, the CRC, and a frame read back from what the TTX sends. -/

namespace Sys2Proof.Machine

/-! ### Numbers and their bits (R188) -/

@[simp] theorem bitsOf_length (w v : Nat) : (bitsOf w v).length = w := by simp [bitsOf]

theorem natOf_concat (l : List Bool) (b : Bool) : natOf (l ++ [b]) = 2 * natOf l + b.toNat := by
  simp [natOf]

theorem natOf_lt (l : List Bool) : natOf l < 2 ^ l.length := by
  induction l using List.reverseRecOn with
  | nil => decide
  | append_singleton l b ih =>
    rw [natOf_concat, List.length_append, List.length_singleton, Nat.pow_succ]
    have := b.toNat_le
    omega

theorem bitsOf_succ (w v : Nat) : bitsOf (w + 1) v = bitsOf w (v / 2) ++ [v.testBit 0] := by
  rw [bitsOf, List.range_succ, List.map_append, bitsOf]
  congr 1
  · refine List.map_congr_left fun i hi => ?_
    rw [List.mem_range] at hi
    rw [Nat.testBit_div_two]
    congr 1
    omega
  · simp

theorem natOf_bitsOf (w v : Nat) : natOf (bitsOf w v) = v % 2 ^ w := by
  induction w generalizing v with
  | zero => simp [bitsOf, natOf, Nat.mod_one]
  | succ w ih =>
    have hbit : (v.testBit 0).toNat = v % 2 := by
      rw [Nat.testBit_zero]
      rcases Nat.mod_two_eq_zero_or_one v with h | h <;> simp [h]
    rw [bitsOf_succ, natOf_concat, ih, hbit, Nat.pow_succ, Nat.mul_comm (2 ^ w) 2, Nat.mod_mul]
    omega

theorem bitsOf_natOf {l : List Bool} {w : Nat} (h : l.length = w) : bitsOf w (natOf l) = l := by
  subst h
  induction l using List.reverseRecOn with
  | nil => rfl
  | append_singleton l b ih =>
    have hdiv : (2 * natOf l + b.toNat) / 2 = natOf l := by have := b.toNat_le; omega
    have hbit : (2 * natOf l + b.toNat).testBit 0 = b := by
      rw [Nat.testBit_zero]
      cases b <;> simp
    rw [List.length_append, List.length_singleton, bitsOf_succ, natOf_concat, hdiv, hbit, ih]

/-! ### The CRC (R30) -/

/-- A register is known from the bit taken and the register after it. -/
theorem crcStep_injective (b : Bool) {r r' : BitVec 16} (h : crcStep r b = crcStep r' b) : r = r' := by
  have hlsb (r : BitVec 16) : (crcStep r b).getLsbD 0 = xor r.msb b := by
    unfold crcStep
    split
    · next hx => rw [hx]; simp; decide
    · next hx => rw [Bool.eq_false_iff.2 hx]; simp
  have hmsb : r.msb = r'.msb := by
    have := (hlsb r).symm.trans ((congrArg (·.getLsbD 0) h).trans (hlsb r'))
    simpa using this
  have hshift : r <<< 1 = r' <<< 1 := by
    unfold crcStep at h
    rw [hmsb] at h
    split at h
    · exact (BitVec.xor_left_inj _).1 h
    · exact h
  refine BitVec.eq_of_getLsbD_eq fun i hi => ?_
  by_cases htop : i = 15
  · subst htop
    simpa [BitVec.msb_eq_getLsbD_last] using hmsb
  · have := congrArg (·.getLsbD (i + 1)) hshift
    simpa [show i + 1 < 16 by omega, BitVec.getLsbD_eq_getElem hi] using this

theorem foldl_crcStep_injective (l : List Bool) {r r' : BitVec 16} (h : l.foldl crcStep r = l.foldl crcStep r') : r = r' := by
  induction l generalizing r r' with
  | nil => exact h
  | cons b l ih => exact crcStep_injective b (ih h)

/-- A register that takes its own bits shifts them out. -/
theorem foldl_crcStep_own (r : BitVec 16) : (bitsOf 16 r.toNat).foldl crcStep r = 0 := by
  have hstep (r : BitVec 16) : crcStep r r.msb = r <<< 1 := by simp [crcStep]
  have hshift (k : Nat) (hk : k ≤ 16) :
      ((List.range k).map fun i => r.toNat.testBit (15 - i)).foldl crcStep r = r <<< k := by
    induction k with
    | zero => simp
    | succ k ih =>
      have hmsb : r.toNat.testBit (15 - k) = (r <<< k).msb := by
        rw [BitVec.msb_eq_getLsbD_last]
        simp [BitVec.testBit_toNat, show ¬15 < k by omega, BitVec.getLsbD_eq_getElem (show 15 - k < 16 by omega)]
      rw [List.range_succ, List.map_append, List.foldl_append, ih (by omega)]
      simp only [List.map_cons, List.map_nil, List.foldl_cons, List.foldl_nil]
      rw [hmsb, hstep, ← BitVec.shiftLeft_add]
  have h := hshift 16 (le_refl _)
  rw [bitsOf]
  refine h.trans ?_
  exact BitVec.shiftLeft_eq_zero (le_refl _)

/-- R30, R50: 16 bits after what a register covers bring it to 0 exactly when they are its own. -/
theorem crc_append_eq_zero {l t : List Bool} (ht : t.length = 16) : crc (l ++ t) = 0 ↔ t = bitsOf 16 (crc l).toNat := by
  rw [crc, List.foldl_append]
  constructor
  · intro h
    have hown : bitsOf 16 (BitVec.ofNat 16 (natOf t)).toNat = t := by
      rw [BitVec.toNat_ofNat, Nat.mod_eq_of_lt (ht ▸ natOf_lt t), bitsOf_natOf ht]
    have hreg : crc l = BitVec.ofNat 16 (natOf t) := by
      refine foldl_crcStep_injective t (h.trans ?_)
      have := foldl_crcStep_own (BitVec.ofNat 16 (natOf t))
      rw [hown] at this
      exact this.symm
    rw [hreg, hown]
  · intro h
    rw [h]
    exact foldl_crcStep_own _

/-! ### Slices of a stream -/

/-- The `w` bits from offset `o`. -/
def slice (l : List Bool) (o w : Nat) : List Bool := (l.drop o).take w

theorem bitField_eq (l : List Bool) (o w : Nat) : bitField l o w = natOf (slice l o w) := rfl

theorem slice_length {l : List Bool} {o w : Nat} (h : o + w ≤ l.length) : (slice l o w).length = w := by
  rw [slice, List.length_take, List.length_drop]
  omega

theorem slice_zero (l : List Bool) (w : Nat) : slice l 0 w = l.take w := rfl

/-- Two slices that touch. -/
theorem slice_append (l : List Bool) (o w w' : Nat) : slice l o w ++ slice l (o + w) w' = slice l o (w + w') := by
  rw [slice, slice, slice, List.take_add, List.drop_drop]

theorem slice_slice {l : List Bool} {o w o' w' : Nat} (h : o' + w' ≤ w) :
    slice (slice l o w) o' w' = slice l (o + o') w' := by
  rw [slice, slice, slice, List.drop_take, List.take_take, List.drop_drop, Nat.min_eq_left (by omega)]

/-- A slice past the front of an append, and one within it. -/
theorem slice_append_right {l m : List Bool} {o w : Nat} (h : l.length ≤ o) : slice (l ++ m) o w = slice m (o - l.length) w := by
  rw [slice, List.drop_append, List.drop_eq_nil_of_le h, List.nil_append, slice]

theorem slice_append_left {l m : List Bool} {o w : Nat} (h : o + w ≤ l.length) : slice (l ++ m) o w = slice l o w := by
  rw [slice, List.drop_append_of_le_length (by omega), List.take_append_of_le_length, slice]
  rw [List.length_drop]
  omega

theorem slice_self {l : List Bool} {w : Nat} (h : l.length = w) : slice l 0 w = l := by
  rw [slice, List.drop_zero, ← h, List.take_length]

/-- Records of `k` bits each: the `i`-th is found at `k * i`. -/
theorem slice_flatMap {α : Type} {g : α → List Bool} {k : Nat} (hg : ∀ a, (g a).length = k) {l : List α} {i : Nat} {a : α}
    (h : l[i]? = some a) : slice (l.flatMap g) (k * i) k = g a := by
  induction l generalizing i with
  | nil => simp at h
  | cons b l ih =>
    rw [List.flatMap_cons]
    cases i with
    | zero =>
      rw [List.getElem?_cons_zero, Option.some_inj] at h
      rw [Nat.mul_zero, slice_append_left (by rw [hg]; omega), h, slice_self (hg a)]
    | succ i =>
      rw [List.getElem?_cons_succ] at h
      rw [slice_append_right (by rw [hg, Nat.mul_succ]; omega), hg, show k * (i + 1) - k = k * i by rw [Nat.mul_succ]; omega]
      exact ih h

theorem length_flatMap_of_length {α : Type} {g : α → List Bool} {k : Nat} (hg : ∀ a, (g a).length = k) (l : List α) :
    (l.flatMap g).length = k * l.length := by
  induction l with
  | nil => rfl
  | cons a l ih => rw [List.flatMap_cons, List.length_append, hg, ih, List.length_cons, Nat.mul_succ, Nat.add_comm]

/-- Slices of `k` bits in a row. -/
theorem flatMap_slice (l : List Bool) (o k n : Nat) :
    ((List.range n).flatMap fun i => slice l (o + k * i) k) = slice l o (k * n) := by
  induction n with
  | zero => simp [slice]
  | succ n ih =>
    rw [List.range_succ, List.flatMap_append, ih, List.flatMap_singleton, slice_append, Nat.mul_succ]

/-! ### Codes read back (R188) -/

theorem signedOf_signedWord {x : Int} (h1 : -6000 ≤ x) (h2 : x ≤ 3000) : signedOf (signedWord x) = x := by
  unfold signedOf signedWord
  rw [BitVec.ofNat_toNat, BitVec.setWidth_eq, BitVec.toInt_ofInt]
  exact Int.bmod_eq_of_le (by omega) (by omega)

theorem signedWord_signedOf {v : Nat} (h : v < 2 ^ 16) : signedWord (signedOf v) = v := by
  unfold signedOf signedWord
  rw [BitVec.ofInt_toInt, BitVec.toNat_ofNat, Nat.mod_eq_of_lt h]

theorem signedWord_eq (x : Int) : signedWord x = (x % 2 ^ 16).toNat := by
  rw [signedWord, BitVec.toNat_ofInt]
  rfl

theorem signedWord_lt (x : Int) : signedWord x < 2 ^ 16 := BitVec.isLt _

theorem Marker.code_ofCode {v : Nat} (h : v < 4) : (Marker.ofCode v).code = v := by
  interval_cases v <;> rfl
theorem LightClass.code_ofCode {v : Nat} (h : v < 4) : (LightClass.ofCode v).code = v := by
  interval_cases v <;> rfl
theorem AmpState.code_ofCode {v : Nat} (h : v < 4) : (AmpState.ofCode v).code = v := by
  interval_cases v <;> rfl
theorem SpanVerdict.code_ofCode {v : Nat} (h : v < 8) : (SpanVerdict.ofCode v).code = v := by
  interval_cases v <;> rfl
theorem Verdict.code_ofCode {v : Nat} (h : v < 4) : (Verdict.ofCode v).code = v := by
  interval_cases v <;> rfl
theorem PumpState.code_ofCode {v : Nat} (h : v < 4) : (PumpState.ofCode v).code = v := by
  interval_cases v <;> rfl
theorem DirectiveKind.code_ofCode {v : Nat} (h : v < 4) : (DirectiveKind.ofCode v).code = v := by
  interval_cases v <;> rfl
theorem roleCode_roleOfCode {v : Nat} (h : v < 2) : roleCode (roleOfCode v) = v := by
  interval_cases v <;> rfl

theorem Marker.ofCode_code (x : Marker) : Marker.ofCode (x.code % 2 ^ 2) = x := by cases x <;> rfl
theorem LightClass.ofCode_code (x : LightClass) : LightClass.ofCode (x.code % 2 ^ 2) = x := by cases x <;> rfl
theorem AmpState.ofCode_code (x : AmpState) : AmpState.ofCode (x.code % 2 ^ 2) = x := by cases x <;> rfl
theorem SpanVerdict.ofCode_code (x : SpanVerdict) : SpanVerdict.ofCode (x.code % 2 ^ 3) = x := by cases x <;> rfl
theorem Verdict.ofCode_code (x : Verdict) : Verdict.ofCode (x.code % 2 ^ 2) = x := by cases x <;> rfl
theorem PumpState.ofCode_code (x : PumpState) : PumpState.ofCode (x.code % 2 ^ 2) = x := by cases x <;> rfl
theorem DirectiveKind.ofCode_code (x : DirectiveKind) : DirectiveKind.ofCode (x.code % 2 ^ 2) = x := by
  cases x <;> rfl
theorem roleOfCode_roleCode (x : Role) : roleOfCode (roleCode x % 2 ^ 1) = x := by cases x <;> rfl

/-! ### The layout of a frame (R27 to R29, R189) -/

@[simp] theorem headerBits_length (f : Frame) : (headerBits f).length = 19 := by simp [headerBits]
@[simp] theorem ampBits_length (a : FrameAmp) : (ampBits a).length = 41 := by simp [ampBits]
@[simp] theorem pumpBits_length (p : FramePump) : (pumpBits p).length = 4 := by simp [pumpBits]
@[simp] theorem directiveBits_length (d : Directive) : (directiveBits d).length = 14 := by simp [directiveBits]

/-- The bits of a directive, none without one. -/
def tailBits (f : Frame) : List Bool :=
  match f.directive with | some d => directiveBits d | none => []

theorem coveredBits_eq (f : Frame) :
    coveredBits f = headerBits f ++ (f.amps.flatMap ampBits ++ (f.pumps.flatMap pumpBits ++ tailBits f)) := by
  simp only [coveredBits, tailBits, List.append_assoc] <;> rfl

/-- The number of bits that the CRC covers. -/
def Frame.coveredSize (f : Frame) : Nat := 19 + 82 * f.pairs + 4 * f.pumpCount + if f.directive.isSome then 14 else 0

theorem tailBits_length (f : Frame) : (tailBits f).length = if f.directive.isSome then 14 else 0 := by
  unfold tailBits
  split <;> simp [*]

section
variable {f : Frame} (hamps : f.amps.length = 2 * f.pairs) (hpumps : f.pumps.length = f.pumpCount)
include hamps hpumps

theorem coveredBits_length : (coveredBits f).length = f.coveredSize := by
  rw [coveredBits_eq]
  simp only [List.length_append, headerBits_length, length_flatMap_of_length ampBits_length,
    length_flatMap_of_length pumpBits_length, tailBits_length, hamps, hpumps, Frame.coveredSize]
  omega

end

/-- The fields of the header (R27). -/
theorem slice_headerBits (f : Frame) :
    slice (headerBits f) 0 8 = bitsOf 8 f.origin ∧ slice (headerBits f) 8 1 = bitsOf 1 (roleCode f.role) ∧
      slice (headerBits f) 9 2 = bitsOf 2 (f.pairs - 1) ∧ slice (headerBits f) 11 2 = bitsOf 2 f.marker.code ∧
      slice (headerBits f) 13 1 = [f.directive.isSome] ∧ slice (headerBits f) 14 1 = [f.probeActive] ∧
      slice (headerBits f) 15 2 = bitsOf 2 f.probePump ∧ slice (headerBits f) 17 2 = bitsOf 2 (f.pumpCount - 1) := by
  refine ⟨rfl, rfl, rfl, rfl, rfl, rfl, rfl, rfl⟩

theorem slice_ampBits (a : FrameAmp) :
    slice (ampBits a) 0 16 = bitsOf 16 (signedWord a.sIn) ∧ slice (ampBits a) 16 16 = bitsOf 16 (signedWord a.sOut) ∧
      slice (ampBits a) 32 2 = bitsOf 2 a.cls.code ∧ slice (ampBits a) 34 2 = bitsOf 2 a.state.code ∧
      slice (ampBits a) 36 3 = bitsOf 3 a.span.code ∧ slice (ampBits a) 39 2 = bitsOf 2 a.gain.code := by
  refine ⟨rfl, rfl, rfl, rfl, rfl, rfl⟩

theorem slice_pumpBits (p : FramePump) :
    slice (pumpBits p) 0 2 = bitsOf 2 p.state.code ∧ slice (pumpBits p) 2 2 = bitsOf 2 p.verdict.code := ⟨rfl, rfl⟩

theorem slice_directiveBits (d : Directive) :
    slice (directiveBits d) 0 2 = bitsOf 2 d.kind.code ∧ slice (directiveBits d) 2 8 = bitsOf 8 d.target ∧
      slice (directiveBits d) 10 4 = bitsOf 4 d.id := ⟨rfl, rfl, rfl⟩

end Sys2Proof.Machine
end

section
/-! Frames as bits (O27): the bits that a tracker accepts are those of the frame it reads, and a frame sent is read back. -/

namespace Sys2Proof.Machine

/-! ### What is read spells the bits (R49, R189) -/

theorem slice_append_of_eq {l : List Bool} {o o' w w' : Nat} (h : o + w = o') :
    slice l o w ++ slice l o' w' = slice l o (w + w') := h ▸ slice_append l o w w'

theorem bitsOf_bitField {l : List Bool} {o w : Nat} (h : o + w ≤ l.length) : bitsOf w (bitField l o w) = slice l o w :=
  bitsOf_natOf (slice_length h)

theorem bitField_lt (l : List Bool) (o w : Nat) : bitField l o w < 2 ^ w := by
  refine (natOf_lt _).trans_le (Nat.pow_le_pow_right (by decide) ?_)
  exact List.length_take_le ..

theorem singleton_of_bit {l : List Bool} {o : Nat} (h : o + 1 ≤ l.length) : [decide (bitField l o 1 = 1)] = slice l o 1 := by
  have hlen := slice_length h
  rw [bitField_eq]
  match slice l o 1, hlen with
  | [b], _ => cases b <;> rfl

theorem ampBits_readAmp {l : List Bool} {o : Nat} (h : o + 41 ≤ l.length) : ampBits (readAmp l o) = slice l o 41 := by
  unfold ampBits readAmp
  dsimp only
  rw [signedWord_signedOf (bitField_lt ..), signedWord_signedOf (bitField_lt ..), LightClass.code_ofCode (bitField_lt ..),
    AmpState.code_ofCode (bitField_lt ..), SpanVerdict.code_ofCode (bitField_lt ..), Verdict.code_ofCode (bitField_lt ..)]
  repeat rw [bitsOf_bitField (by omega)]
  rw [slice_append, slice_append, slice_append, slice_append, slice_append]

theorem pumpBits_readPumpRecord {l : List Bool} {o : Nat} (h : o + 4 ≤ l.length) :
    pumpBits (readPumpRecord l o) = slice l o 4 := by
  unfold pumpBits readPumpRecord
  dsimp only
  rw [PumpState.code_ofCode (bitField_lt ..), Verdict.code_ofCode (bitField_lt ..), bitsOf_bitField (by omega),
    bitsOf_bitField (by omega), slice_append]

theorem directiveBits_readDirective {l : List Bool} {o : Nat} (h : o + 14 ≤ l.length) :
    directiveBits (readDirective l o) = slice l o 14 := by
  unfold directiveBits readDirective
  dsimp only
  rw [DirectiveKind.code_ofCode (bitField_lt ..), bitsOf_bitField (by omega), bitsOf_bitField (by omega),
    bitsOf_bitField (by omega), slice_append, slice_append]

/-- Where the pump records and the directive of a frame begin, from its header. -/
theorem readFrame_fields (l : List Bool) :
    (readFrame l).pairs = bitField l 9 2 + 1 ∧ (readFrame l).pumpCount = bitField l 17 2 + 1 ∧
      (readFrame l).directive.isSome = decide (bitField l 13 1 = 1) := by
  refine ⟨rfl, rfl, ?_⟩
  unfold readFrame
  dsimp only
  by_cases h : bitField l 13 1 = 1
  · rw [if_pos h, decide_eq_true h]
    rfl
  · rw [if_neg h, decide_eq_false h]
    rfl

theorem coveredLength_eq (l : List Bool) : coveredLength l = (readFrame l).coveredSize := by
  obtain ⟨hpairs, hpumps, hdir⟩ := readFrame_fields l
  have hlt := bitField_lt l 13 1
  rw [Frame.coveredSize, hpairs, hpumps, hdir, coveredLength]
  by_cases h : bitField l 13 1 = 1
  · rw [h, decide_eq_true rfl, if_pos rfl]
  · rw [decide_eq_false h, if_neg (by decide), show bitField l 13 1 = 0 by omega]

theorem headerBits_readFrame {l : List Bool} (h : 19 ≤ l.length) : headerBits (readFrame l) = slice l 0 19 := by
  have hprobe : (readFrame l).probeActive = decide (bitField l 14 1 = 1) := beq_eq_decide _ _
  rw [headerBits, (readFrame_fields l).2.2, hprobe]
  unfold readFrame
  dsimp only
  rw [singleton_of_bit (by omega), singleton_of_bit (by omega), roleCode_roleOfCode (bitField_lt ..),
    Marker.code_ofCode (bitField_lt ..), Nat.add_sub_cancel, Nat.add_sub_cancel]
  repeat rw [bitsOf_bitField (by omega)]
  rw [slice_append_of_eq rfl, slice_append_of_eq rfl, slice_append_of_eq rfl, slice_append_of_eq rfl,
    slice_append_of_eq rfl, slice_append_of_eq rfl, slice_append_of_eq rfl]

theorem ampsBits_readFrame {l : List Bool} (h : coveredLength l ≤ l.length) :
    (readFrame l).amps.flatMap ampBits = slice l 19 (41 * (2 * (readFrame l).pairs)) := by
  rw [← flatMap_slice]
  unfold coveredLength at h
  unfold readFrame
  dsimp only
  rw [List.flatMap_map]
  refine List.flatMap_congr fun i hi => ampBits_readAmp ?_
  rw [List.mem_range] at hi
  omega

theorem pumpsBits_readFrame {l : List Bool} (h : coveredLength l ≤ l.length) :
    (readFrame l).pumps.flatMap pumpBits = slice l (19 + 82 * (readFrame l).pairs) (4 * (readFrame l).pumpCount) := by
  rw [← flatMap_slice]
  unfold coveredLength at h
  unfold readFrame
  dsimp only
  rw [List.flatMap_map]
  refine List.flatMap_congr fun i hi => pumpBits_readPumpRecord ?_
  rw [List.mem_range] at hi
  omega

theorem tailBits_readFrame {l : List Bool} (h : coveredLength l ≤ l.length) :
    tailBits (readFrame l) =
      slice l (19 + 82 * (readFrame l).pairs + 4 * (readFrame l).pumpCount)
        (if (readFrame l).directive.isSome then 14 else 0) := by
  obtain ⟨hpairs, hpumps, hdir⟩ := readFrame_fields l
  rw [hdir, hpairs, hpumps]
  unfold coveredLength at h
  by_cases hd : bitField l 13 1 = 1
  · rw [hd] at h
    rw [decide_eq_true hd, if_pos rfl, ← directiveBits_readDirective (by omega)]
    unfold tailBits readFrame
    dsimp only
    rw [if_pos hd]
  · rw [decide_eq_false hd, if_neg (by decide)]
    unfold tailBits readFrame
    dsimp only
    rw [if_neg hd]
    simp [slice]

/-- The bits covered by the CRC are those of the frame read from them. -/
theorem coveredBits_readFrame {l : List Bool} (h : coveredLength l ≤ l.length) :
    coveredBits (readFrame l) = l.take (coveredLength l) := by
  have hheader : 19 ≤ l.length := by
    unfold coveredLength at h
    omega
  rw [coveredBits_eq, headerBits_readFrame hheader, ampsBits_readFrame h, pumpsBits_readFrame h, tailBits_readFrame h,
    slice_append_of_eq rfl, slice_append_of_eq (by omega), slice_append_of_eq rfl, slice_zero, coveredLength_eq,
    Frame.coveredSize]
  congr 1
  omega

/-! ### What is sent is read back -/

section
variable {f : Frame} (hamps : f.amps.length = 2 * f.pairs) (hpumps : f.pumps.length = f.pumpCount)

theorem slice_header {o w : Nat} (h : o + w ≤ 19) (rest : List Bool) :
    slice (coveredBits f ++ rest) o w = slice (headerBits f) o w := by
  rw [coveredBits_eq, List.append_assoc, slice_append_left (by rw [headerBits_length]; exact h)]

theorem slice_amp {i : Nat} {a : FrameAmp} (ha : f.amps[i]? = some a) {o w : Nat} (h : o + w ≤ 41) (rest : List Bool) :
    slice (coveredBits f ++ rest) (19 + 41 * i + o) w = slice (ampBits a) o w := by
  have hi := (List.getElem?_eq_some_iff.1 ha).1
  have hrecord : slice (coveredBits f ++ rest) (19 + 41 * i) 41 = ampBits a := by
    have hlen := length_flatMap_of_length ampBits_length f.amps
    rw [coveredBits_eq, List.append_assoc, slice_append_right (by rw [headerBits_length]; omega), headerBits_length,
      List.append_assoc, slice_append_left (by omega), Nat.add_sub_cancel_left]
    exact slice_flatMap ampBits_length ha
  rw [← hrecord, slice_slice h]

include hamps

theorem slice_pump {j : Nat} {x : FramePump} (hx : f.pumps[j]? = some x) {o w : Nat} (h : o + w ≤ 4) (rest : List Bool) :
    slice (coveredBits f ++ rest) (19 + 82 * f.pairs + 4 * j + o) w = slice (pumpBits x) o w := by
  have hj := (List.getElem?_eq_some_iff.1 hx).1
  have hrecord : slice (coveredBits f ++ rest) (19 + 82 * f.pairs + 4 * j) 4 = pumpBits x := by
    have hlen := length_flatMap_of_length ampBits_length f.amps
    have hlen' := length_flatMap_of_length pumpBits_length f.pumps
    rw [hamps] at hlen
    rw [coveredBits_eq, List.append_assoc, slice_append_right (by rw [headerBits_length]; omega), headerBits_length,
      List.append_assoc, slice_append_right (by omega), List.append_assoc, slice_append_left (by omega), hlen,
      show 19 + 82 * f.pairs + 4 * j - 19 - 41 * (2 * f.pairs) = 4 * j by omega]
    exact slice_flatMap pumpBits_length hx
  rw [← hrecord, slice_slice h]

include hpumps

theorem slice_directive {d : Directive} (hd : f.directive = some d) {o w : Nat} (h : o + w ≤ 14) (rest : List Bool) :
    slice (coveredBits f ++ rest) (19 + 82 * f.pairs + 4 * f.pumpCount + o) w = slice (directiveBits d) o w := by
  have hrecord : slice (coveredBits f ++ rest) (19 + 82 * f.pairs + 4 * f.pumpCount) 14 = directiveBits d := by
    have hlen := length_flatMap_of_length ampBits_length f.amps
    have hlen' := length_flatMap_of_length pumpBits_length f.pumps
    have htail : tailBits f = directiveBits d := by rw [tailBits, hd]
    rw [hamps] at hlen
    rw [hpumps] at hlen'
    rw [coveredBits_eq, List.append_assoc, slice_append_right (by rw [headerBits_length]; omega), headerBits_length,
      List.append_assoc, slice_append_right (by omega), List.append_assoc, slice_append_right (by omega), htail, hlen, hlen',
      show 19 + 82 * f.pairs + 4 * f.pumpCount - 19 - 41 * (2 * f.pairs) - 4 * f.pumpCount = 0 by omega,
      slice_append_left (by simp), slice_self (directiveBits_length d)]
  rw [← hrecord, slice_slice h]

end

theorem bitField_of_slice {l : List Bool} {o w v : Nat} (h : slice l o w = bitsOf w v) : bitField l o w = v % 2 ^ w := by
  rw [bitField_eq, h, natOf_bitsOf]

/-- R27 to R29: what a station can send, all but the sender's position. -/
structure Frame.Sendable (f : Frame) : Prop where
  origin : f.origin < 256
  pairs : 1 ≤ f.pairs ∧ f.pairs ≤ 4
  pumpCount : 1 ≤ f.pumpCount ∧ f.pumpCount ≤ 4
  probePump : f.probePump < 4
  amps : f.amps.length = 2 * f.pairs
  pumps : f.pumps.length = f.pumpCount
  powers : ∀ a ∈ f.amps, -6000 ≤ a.sIn ∧ a.sIn ≤ 3000 ∧ -6000 ≤ a.sOut ∧ a.sOut ≤ 3000
  directive : ∀ d, f.directive = some d → d.target < 256 ∧ d.id < 16

theorem readAmp_of_slice {l : List Bool} {o : Nat} {a : FrameAmp} (h : ∀ o' w, o' + w ≤ 41 → slice l (o + o') w = slice (ampBits a) o' w)
    (hp : -6000 ≤ a.sIn ∧ a.sIn ≤ 3000 ∧ -6000 ≤ a.sOut ∧ a.sOut ≤ 3000) : readAmp l o = a := by
  obtain ⟨h1, h2, h3, h4, h5, h6⟩ := slice_ampBits a
  obtain ⟨hin, hin', hout, hout'⟩ := hp
  unfold readAmp
  rw [bitField_of_slice (o := o) ((h 0 16 (by decide)).trans h1), bitField_of_slice ((h 16 16 (by decide)).trans h2),
    bitField_of_slice ((h 32 2 (by decide)).trans h3), bitField_of_slice ((h 34 2 (by decide)).trans h4),
    bitField_of_slice ((h 36 3 (by decide)).trans h5), bitField_of_slice ((h 39 2 (by decide)).trans h6),
    Nat.mod_eq_of_lt (signedWord_lt _), Nat.mod_eq_of_lt (signedWord_lt _), signedOf_signedWord hin hin',
    signedOf_signedWord hout hout', LightClass.ofCode_code, AmpState.ofCode_code, SpanVerdict.ofCode_code, Verdict.ofCode_code]

theorem readPumpRecord_of_slice {l : List Bool} {o : Nat} {x : FramePump}
    (h : ∀ o' w, o' + w ≤ 4 → slice l (o + o') w = slice (pumpBits x) o' w) : readPumpRecord l o = x := by
  obtain ⟨h1, h2⟩ := slice_pumpBits x
  unfold readPumpRecord
  rw [bitField_of_slice (o := o) ((h 0 2 (by decide)).trans h1), bitField_of_slice ((h 2 2 (by decide)).trans h2),
    PumpState.ofCode_code, Verdict.ofCode_code]

theorem readDirective_of_slice {l : List Bool} {o : Nat} {d : Directive}
    (h : ∀ o' w, o' + w ≤ 14 → slice l (o + o') w = slice (directiveBits d) o' w) (ht : d.target < 256) (hi : d.id < 16) :
    readDirective l o = d := by
  obtain ⟨h1, h2, h3⟩ := slice_directiveBits d
  unfold readDirective
  rw [bitField_of_slice (o := o) ((h 0 2 (by decide)).trans h1), bitField_of_slice ((h 2 8 (by decide)).trans h2),
    bitField_of_slice ((h 10 4 (by decide)).trans h3), DirectiveKind.ofCode_code, Nat.mod_eq_of_lt (b := 2 ^ 8) ht,
    Nat.mod_eq_of_lt (b := 2 ^ 4) hi]

theorem map_range_eq_of_getElem? {α : Type} {g : Nat → α} {l : List α} {n : Nat} (hn : l.length = n)
    (h : ∀ i a, l[i]? = some a → g i = a) : (List.range n).map g = l := by
  apply List.ext_getElem
  · simp [hn]
  · intro i h1 h2
    rw [List.getElem_map, List.getElem_range]
    exact h i _ (List.getElem?_eq_getElem h2)

/-- The bits that the TTX sends after the sync are read back as the frame. -/
theorem readFrame_coveredBits {f : Frame} (hf : f.Sendable) (rest : List Bool) : readFrame (coveredBits f ++ rest) = f := by
  obtain ⟨h1, h2, h3, h4, h5, h6, h7, h8⟩ := slice_headerBits f
  have hpairs : bitField (coveredBits f ++ rest) 9 2 + 1 = f.pairs := by
    rw [bitField_of_slice ((slice_header (by decide) rest).trans h3)]
    have := hf.pairs
    omega
  have hcount : bitField (coveredBits f ++ rest) 17 2 + 1 = f.pumpCount := by
    rw [bitField_of_slice ((slice_header (by decide) rest).trans h8)]
    have := hf.pumpCount
    omega
  have hbit {o : Nat} {b : Bool} (ho : o + 1 ≤ 19) (h : slice (headerBits f) o 1 = [b]) :
      bitField (coveredBits f ++ rest) o 1 = b.toNat := by
    rw [bitField_eq, slice_header ho, h]
    cases b <;> rfl
  unfold readFrame
  dsimp only
  rw [hpairs, hcount, hbit (by decide) h5, hbit (by decide) h6,
    bitField_of_slice ((slice_header (by decide) rest).trans h1), bitField_of_slice ((slice_header (by decide) rest).trans h2),
    bitField_of_slice ((slice_header (by decide) rest).trans h4), bitField_of_slice ((slice_header (by decide) rest).trans h7),
    show f.origin % 2 ^ 8 = f.origin from Nat.mod_eq_of_lt hf.origin,
    show f.probePump % 2 ^ 2 = f.probePump from Nat.mod_eq_of_lt hf.probePump, roleOfCode_roleCode, Marker.ofCode_code]
  have hampsRead : (List.range (2 * f.pairs)).map (fun i => readAmp (coveredBits f ++ rest) (19 + 41 * i)) = f.amps :=
    map_range_eq_of_getElem? hf.amps fun i a ha =>
      readAmp_of_slice (fun o w h => slice_amp ha h rest) (hf.powers a (List.mem_of_getElem? ha))
  have hpumpsRead : (List.range f.pumpCount).map
      (fun j => readPumpRecord (coveredBits f ++ rest) (19 + 82 * f.pairs + 4 * j)) = f.pumps :=
    map_range_eq_of_getElem? hf.pumps fun j x hx => readPumpRecord_of_slice fun o w h => slice_pump hf.amps hx h rest
  have hdirective : (if f.directive.isSome.toNat = 1 then
      some (readDirective (coveredBits f ++ rest) (19 + 82 * f.pairs + 4 * f.pumpCount)) else none) = f.directive := by
    cases hd : f.directive with
    | none => rfl
    | some d =>
      obtain ⟨ht, hi⟩ := hf.directive d hd
      rw [readDirective_of_slice (fun o w h => slice_directive hf.amps hf.pumps hd h rest) ht hi]
      rfl
  rw [hampsRead, hpumpsRead, hdirective, show (f.probeActive.toNat == 1) = f.probeActive by cases f.probeActive <;> rfl]

/-! ### The two ends agree (O27) -/

/-- A frame that a station at `q` can send, with its own CRC and whatever follows, is accepted. -/
theorem acceptFrame_afterSyncBits {f : Frame} (hf : f.Sendable) (rest : List Bool) :
    acceptFrame f.origin (afterSyncBits f ++ rest) = some f := by
  have hread : readFrame (afterSyncBits f ++ rest) = f := by
    rw [afterSyncBits, List.append_assoc]
    exact readFrame_coveredBits hf _
  have hlen := coveredBits_length hf.amps hf.pumps
  have hcovered : coveredLength (afterSyncBits f ++ rest) = f.coveredSize := by rw [coveredLength_eq, hread]
  have hafter : (afterSyncBits f).length = f.coveredSize + 16 := by
    rw [afterSyncBits, List.length_append, hlen, bitsOf_length]
  have hcrc : crcPasses (afterSyncBits f ++ rest) = true := by
    rw [crcPasses, hcovered, List.take_append_of_le_length hafter.ge, ← hafter, List.take_length, Bool.and_eq_true]
    refine ⟨decide_eq_true (by rw [List.length_append]; omega), beq_iff_eq.2 ?_⟩
    exact (crc_append_eq_zero (bitsOf_length ..)).2 rfl
  have hpowers : powersInRange f = true := by
    refine List.all_eq_true.2 fun a ha => ?_
    obtain ⟨h1, h2, h3, h4⟩ := hf.powers a ha
    simp [inRange, Config.powerMin, Config.powerMax, h1, h2, h3, h4]
  rw [acceptFrame, hread, hcrc, hpowers, beq_self_eq_true]
  rfl

theorem readFrame_amps_length (l : List Bool) : (readFrame l).amps.length = 2 * (readFrame l).pairs := by
  simp [readFrame]

theorem readFrame_pumps_length (l : List Bool) : (readFrame l).pumps.length = (readFrame l).pumpCount := by
  simp [readFrame]

theorem readFrame_directive {l : List Bool} {d : Directive} (h : (readFrame l).directive = some d) :
    d.target < 256 ∧ d.id < 16 := by
  unfold readFrame at h
  dsimp only at h
  split at h
  · cases h
    exact ⟨bitField_lt .., bitField_lt ..⟩
  · cases h

/-- What is accepted is a frame that the station at `q` can send, and its bits are those of that frame. -/
theorem of_acceptFrame {q : Nat} {bits : List Bool} {f : Frame} (h : acceptFrame q bits = some f) :
    f.Sendable ∧ f.origin = q ∧ ∃ rest, bits = afterSyncBits f ++ rest := by
  have horigin := acceptFrame_origin h
  unfold acceptFrame at h
  split at h
  case isFalse => cases h
  case isTrue hpass =>
    cases h
    simp only [Bool.and_eq_true] at hpass
    obtain ⟨⟨hcrc, -⟩, hpowers⟩ := hpass
    rw [crcPasses, Bool.and_eq_true, decide_eq_true_eq, beq_iff_eq] at hcrc
    obtain ⟨hlen, hzero⟩ := hcrc
    refine ⟨⟨bitField_lt .., ⟨Nat.le_add_left .., bitField_lt bits 9 2⟩, ⟨Nat.le_add_left .., bitField_lt bits 17 2⟩,
      bitField_lt .., readFrame_amps_length _, readFrame_pumps_length _, fun a ha => ?powers, fun d hd => readFrame_directive hd⟩,
      horigin, bits.drop (coveredLength bits + 16), ?bits⟩
    case powers =>
      have hone := List.all_eq_true.1 hpowers a ha
      simp only [inRange, Bool.and_eq_true, decide_eq_true_eq, and_assoc] at hone
      exact hone
    case bits =>
      have hcut : (bits.drop (coveredLength bits)).take 16 = bitsOf 16 (crc (bits.take (coveredLength bits))).toNat := by
        refine (crc_append_eq_zero ?_).1 ?_
        · rw [List.length_take, List.length_drop]
          omega
        · rw [← List.take_add]
          exact hzero
      rw [afterSyncBits, coveredBits_readFrame (by omega), ← hcut, ← List.take_add, List.take_append_drop]

/-- The register as a number (R30). -/
theorem crcStep_toNat (r : BitVec 16) (b : Bool) :
    (crcStep r b).toNat =
      if xor (r.toNat.testBit 15) b then (2 * r.toNat % 2 ^ 16) ^^^ 0x1021 else 2 * r.toNat % 2 ^ 16 := by
  have hmsb : r.msb = r.toNat.testBit 15 := by rw [BitVec.msb_eq_getLsbD_last, BitVec.getLsbD]
  have hshift : (r <<< 1).toNat = 2 * r.toNat % 2 ^ 16 := by
    rw [BitVec.toNat_shiftLeft, Nat.shiftLeft_eq, Nat.pow_one, Nat.mul_comm]
  unfold crcStep
  rw [hmsb, ← hshift]
  split
  · rw [BitVec.toNat_xor]
    rfl
  · rfl

theorem crc_toNat (l : List Bool) :
    (crc l).toNat = l.foldl (fun (r : Nat) b =>
      if xor (r.testBit 15) b then (2 * r % 2 ^ 16) ^^^ 0x1021 else 2 * r % 2 ^ 16) 0xFFFF :=
  (List.foldl_hom BitVec.toNat (g₁ := crcStep) (H := fun r b => (crcStep_toNat r b).symm)).symm

theorem bitsOf_one_bit (b : Bool) : bitsOf 1 (if b then 1 else 0) = [b] := by cases b <;> decide

/-- Settles O27: what is read spells the bits, what is sent is read back, and the layout is that of the appends. -/
theorem acceptedBitsAreTheFrameSent : Obligations.AcceptedBitsAreTheFrameSent := by
  constructor
  · intro q bits f
    constructor
    · intro h
      obtain ⟨hf, horigin, hrest⟩ := of_acceptFrame h
      obtain ⟨h1, ⟨h2, h3⟩, ⟨h4, h5⟩, h6, h7, h8, h9, h10⟩ := hf
      exact ⟨⟨horigin, horigin ▸ h1, h2, h3, h4, h5, h6, h7, h8, h9, h10⟩, hrest⟩
    · rintro ⟨⟨horigin, h1, h2, h3, h4, h5, h6, h7, h8, h9, h10⟩, rest, rfl⟩
      rw [← horigin]
      exact acceptFrame_afterSyncBits ⟨horigin ▸ h1, ⟨h2, h3⟩, ⟨h4, h5⟩, h6, h7, h8, h9, h10⟩ rest
  · intro f hamps hpumps sent msb field signed bit role marker lightClass ampState span verdict pumpState kind pumpsAt
      directiveAt crcAt register
    have hsize : crcAt = 16 + f.coveredSize := by
      simp only [crcAt, directiveAt, pumpsAt, Frame.coveredSize]
      omega
    have hcovered : (coveredBits f).length = f.coveredSize := coveredBits_length hamps hpumps
    have hsync : (bitsOf 16 Config.syncPattern).length = 16 := bitsOf_length ..
    have hfield {o o' w v : Nat} (ho : o' = 16 + o) (h : slice (afterSyncBits f) o w = bitsOf w v) : field o' w v := by
      refine Eq.trans ?_ h
      rw [ho, ← hsync]
      exact (slice_append_right (Nat.le_add_right ..)).trans (by rw [Nat.add_sub_cancel_left])
    have hbit (b : Bool) : bitsOf 1 (bit b) = [b] := bitsOf_one_bit b
    have hsigned (x) : signed x = signedWord x := (signedWord_eq x).symm
    have hrole (x) : role x = roleCode x := by cases x <;> rfl
    have hmarker (x) : marker x = Marker.code x := by cases x <;> rfl
    have hclass (x) : lightClass x = LightClass.code x := by cases x <;> rfl
    have hamp (x) : ampState x = AmpState.code x := by cases x <;> rfl
    have hspan (x) : span x = SpanVerdict.code x := by cases x <;> rfl
    have hverdict (x) : verdict x = Verdict.code x := by cases x <;> rfl
    have hpump (x) : pumpState x = PumpState.code x := by cases x <;> rfl
    have hkind (x) : kind x = DirectiveKind.code x := by cases x <;> rfl
    obtain ⟨h1, h2, h3, h4, h5, h6, h7, h8⟩ := slice_headerBits f
    have hheader {o w : Nat} (h : o + w ≤ 19) : slice (afterSyncBits f) o w = slice (headerBits f) o w := slice_header h _
    refine ⟨rfl, ?length, hfield rfl ((hheader (by decide)).trans h1), hfield rfl ((hheader (by decide)).trans (hrole _ ▸ h2)),
      hfield rfl ((hheader (by decide)).trans h3), hfield rfl ((hheader (by decide)).trans (hmarker _ ▸ h4)),
      hfield rfl ((hheader (by decide)).trans (h5.trans (hbit _).symm)),
      hfield rfl ((hheader (by decide)).trans (h6.trans (hbit _).symm)),
      hfield rfl ((hheader (by decide)).trans h7), hfield rfl ((hheader (by decide)).trans h8),
      fun i a ha => ?amp, fun j x hx => ?pump, fun d hd => ?directive, hfield hsize ?crc⟩
    case length =>
      rw [hsize]
      simp only [sent, frameBits, afterSyncBits, List.length_append, bitsOf_length, hcovered]
      omega
    case amp =>
      obtain ⟨a1, a2, a3, a4, a5, a6⟩ := slice_ampBits a
      have hone {o w : Nat} (h : o + w ≤ 41) : slice (afterSyncBits f) (19 + 41 * i + o) w = slice (ampBits a) o w :=
        slice_amp ha h _
      refine ⟨hfield (by omega) ((hone (o := 0) (by decide)).trans (hsigned _ ▸ a1)),
        hfield (by omega) ((hone (by decide)).trans (hsigned _ ▸ a2)),
        hfield (by omega) ((hone (by decide)).trans (hclass _ ▸ a3)), hfield (by omega) ((hone (by decide)).trans (hamp _ ▸ a4)),
        hfield (by omega) ((hone (by decide)).trans (hspan _ ▸ a5)),
        hfield (by omega) ((hone (by decide)).trans (hverdict _ ▸ a6))⟩
    case pump =>
      obtain ⟨p1, p2⟩ := slice_pumpBits x
      have hone {o w : Nat} (h : o + w ≤ 4) :
          slice (afterSyncBits f) (19 + 82 * f.pairs + 4 * j + o) w = slice (pumpBits x) o w := slice_pump hamps hx h _
      refine ⟨hfield (by omega) ((hone (o := 0) (by decide)).trans (hpump _ ▸ p1)),
        hfield (by omega) ((hone (by decide)).trans (hverdict _ ▸ p2))⟩
    case directive =>
      obtain ⟨d1, d2, d3⟩ := slice_directiveBits d
      have hone {o w : Nat} (h : o + w ≤ 14) :
          slice (afterSyncBits f) (19 + 82 * f.pairs + 4 * f.pumpCount + o) w = slice (directiveBits d) o w :=
        slice_directive hamps hpumps hd h _
      refine ⟨hfield (by omega) ((hone (o := 0) (by decide)).trans (hkind _ ▸ d1)),
        hfield (by omega) ((hone (by decide)).trans d2), hfield (by omega) ((hone (by decide)).trans d3)⟩
    case crc =>
      have hregister : register = (crc (coveredBits f)).toNat := by
        rw [crc_toNat]
        refine congrArg (List.foldl _ _) ?_
        rw [hsize, List.drop_take, Nat.add_sub_cancel_left, ← hcovered]
        simp only [sent, frameBits, afterSyncBits]
        rw [List.drop_left' hsync, List.take_left]
      rw [hregister, afterSyncBits, ← hcovered, slice_append_right (le_refl _), Nat.sub_self]
      exact slice_self (bitsOf_length ..)

end Sys2Proof.Machine
end

section
/-! Frames received (O23, O24, O26): the tracker, the record and its users after an accepted frame, and the filter's entries. -/

namespace Sys2Proof.Machine

/-! ### The record replaced (O23) -/

theorem State.offerAll_eq (s : State) (origin : Nat) (changes : List Change) :
    s.offerAll origin changes = { s with tpt := (s.offerAll origin changes).tpt } := by
  unfold State.offerAll
  split <;> rfl

theorem State.offerAll_tpt (s : State) (origin : Nat) (changes : List Change) :
    (s.offerAll origin changes).tpt =
      if s.cfl.valid = true ∧ s.cfg.role = .terminal then
        changes.foldl (fun u ch => u.offer s.cfg s.now s.cfl.clock origin ch) s.tpt
      else s.tpt := by
  unfold State.offerAll
  by_cases h : s.cfl.valid = true ∧ s.cfg.role = .terminal
  · rw [if_pos h, if_pos (by simp [h])]
  · rw [if_neg h, if_neg (by simpa using h)]

theorem State.collisionTest_eq (s : State) (q : Nat) :
    s.collisionTest q =
      { s with flt := { s.flt with settle := (s.collisionTest q).flt.settle }, ttx := (s.collisionTest q).ttx,
               pbc := { s.pbc with restores := (s.collisionTest q).pbc.restores }, pru := (s.collisionTest q).pru } := by
  unfold State.collisionTest
  split
  · split <;> rfl
  · rfl

theorem State.tellPru_eq (s : State) (q : Nat) :
    s.tellPru q =
      { s with flt := { s.flt with settle := (s.tellPru q).flt.settle }, ttx := (s.tellPru q).ttx,
               pbc := { s.pbc with restores := (s.tellPru q).pbc.restores }, pru := (s.tellPru q).pru } := by
  unfold State.tellPru
  split
  · exact s.collisionTest_eq q
  · rfl

/-- The state in which the record of `f`'s origin is replaced and the FLT and the PBC have heard of it. -/
def State.heardOf (s : State) (f : Frame) : State :=
  ({ s with records := updateRecord f.origin (Neighbour.replace s.now f) s.records }.tellFlt f.origin).tellPbc f.origin

theorem State.replaceRecord_eq_heardOf (s : State) (f : Frame) :
    s.replaceRecord f = ((s.heardOf f).tellPru f.origin).offerAll f.origin (changesFor s.records f) := rfl

/-- What an accepted frame leaves untouched (R54). -/
theorem State.replaceRecord_eq (s : State) (f : Frame) :
    s.replaceRecord f =
      { s with records := (s.replaceRecord f).records, flt := (s.replaceRecord f).flt, pbc := (s.replaceRecord f).pbc,
               pru := (s.replaceRecord f).pru, ttx := (s.replaceRecord f).ttx, tpt := (s.replaceRecord f).tpt } := by
  rw [State.replaceRecord_eq_heardOf, State.offerAll_eq, State.tellPru_eq]
  rfl

@[simp] theorem State.replaceRecord_bank (s : State) (f : Frame) (b : Bank) : (s.replaceRecord f).bank b = s.bank b := by
  cases b <;> simp [State.bank]

/-- The comparison of two lists of records, element by element. -/
theorem flatten_mapIdx_zip {α β γ : Type} {g : Nat → α → β → List γ} {h : Nat → List γ} {l : List α} {l' : List β}
    (hg : ∀ (i : Nat) x y, l[i]? = some x → l'[i]? = some y → g i x y = h i) :
    ((l.zip l').mapIdx fun i e => g i e.1 e.2).flatten = (List.range (min l.length l'.length)).flatMap h := by
  rw [List.flatMap_def]
  congr 1
  apply List.ext_getElem
  · simp
  · intro i h1 h2
    simp only [List.length_mapIdx, List.length_zip, lt_min_iff] at h1
    simp only [List.getElem_mapIdx, List.getElem_zip, List.getElem_map, List.getElem_range]
    exact hg i _ _ (List.getElem?_eq_getElem h1.1) (List.getElem?_eq_getElem h1.2)

/-- Settles O23: the tracker locks past the frame, and the record, its users and the queue follow. -/
theorem acceptedFrameReplacesTheRecord : Obligations.AcceptedFrameReplacesTheRecord := by
  intro b i q k bits f r s hk hread hpos hrun hf hr changes t
  have horigin : f.origin = q := acceptFrame_origin hf
  refine ⟨fun hd => exec_frameChecked_of_no_directive hk hread hpos hrun hf hd, ?frame, ?bank, fun b' hb => ?other, ?records,
    ?offered⟩
  case frame =>
    simp only [t, State.received]
    rw [State.replaceRecord_eq]
    cases b <;> rfl
  case bank =>
    have hsize : coveredLength (k.ahead ++ bits) = f.coveredSize := by
      rw [coveredLength_eq]
      unfold acceptFrame at hf
      split at hf
      · rw [Option.some_inj.1 hf]
      · cases hf
    simp only [t, State.received]
    rw [State.replaceRecord_bank, State.onTracker_eq hk, Tracker.lock, afterFrame, hsize]
    cases b <;> rfl
  case other =>
    obtain rfl | rfl := eq_or_eq_otherBank b b'
    · exact absurd rfl hb
    · simp only [t, State.received]
      rw [State.replaceRecord_bank]
      cases b <;> rfl
  case records =>
    simp only [t, State.received]
    rw [State.replaceRecord_records, State.onTracker_records, State.onTracker_now, horigin]
    rfl
  case offered =>
    have hchanges : changesFor s.records f = (r.contents.map changes).getD [] := by
      rw [changesFor, horigin, hr]
      cases hc : r.contents with
      | none => simp [hc]
      | some old =>
        simp only [Option.bind_some, hc, Option.map_some, Option.getD_some, frameChanges, changes]
        congr 1
        · refine flatten_mapIdx_zip fun a x y hx hy => ?_
          rw [hx, hy]
          simp only [ampChanges, ne_eq, ite_not]
        · refine flatten_mapIdx_zip fun j x y hx hy => ?_
          rw [hx, hy]
          simp only [pumpChanges, ne_eq, ite_not]
    have htpt (u : State) : (u.replaceRecord f).tpt =
        if u.cfl.valid = true ∧ u.cfg.role = .terminal then
          (changesFor u.records f).foldl (fun v ch => v.offer u.cfg u.now u.cfl.clock f.origin ch) u.tpt
        else u.tpt := by
      rw [State.replaceRecord_eq_heardOf, State.offerAll_tpt]
      rw [State.tellPru_cfl, State.tellPru_cfg, State.tellPru_now, State.tellPru_tpt]
      rfl
    simp only [t, State.received]
    rw [htpt]
    simp only [State.onTracker_cfl, State.onTracker_cfg, State.onTracker_records, State.onTracker_now, State.onTracker_tpt,
      hchanges, horigin]

/-! ### The users told (O24) -/

section
variable {rs : List Neighbour} {q : Nat} {r : Neighbour}

theorem findRecord_updateRecord {g : Neighbour → Neighbour} (hg : ∀ x, (g x).origin = x.origin) (h : findRecord rs q = some r) :
    findRecord (updateRecord q g rs) q = some (g r) := by
  unfold findRecord updateRecord at *
  rw [List.find?_map]
  have hcomp : ((fun x : Neighbour => x.origin == q) ∘ fun x => if x.origin = q then g x else x) =
      fun x : Neighbour => x.origin == q := by
    funext x
    dsimp only [Function.comp]
    split
    · rw [hg]
    · rfl
  have horigin : r.origin = q := by simpa using List.find?_some h
  rw [hcomp, h, Option.map_some, if_pos horigin]

/-- A record just replaced is FRESH with the frame's contents (R73). -/
theorem freshContents_replaced (h : findRecord rs q = some r) (now : Moment) (f : Frame) :
    freshContents (updateRecord q (Neighbour.replace now f) rs) q = some f := by
  rw [freshContents, findRecord_updateRecord (g := Neighbour.replace now f) (fun _ => rfl) h]
  exact if_pos rfl

theorem standing_replaced (h : findRecord rs q = some r) (now : Moment) (f : Frame) :
    standing (updateRecord q (Neighbour.replace now f) rs) q = .fresh := by
  rw [standing, findRecord_updateRecord (g := Neighbour.replace now f) (fun _ => rfl) h]
  rfl

theorem probeFlag_replaced (h : findRecord rs q = some r) (now : Moment) (f : Frame) :
    (probeFlag (updateRecord q (Neighbour.replace now f) rs) q).isSome = f.probeActive := by
  rw [probeFlag, freshContents_replaced h]
  dsimp only
  cases f.probeActive <;> rfl

theorem ampEntryAt_replaced (h : findRecord rs q = some r) (now : Moment) (f : Frame) (a i : Nat) :
    ampEntryAt (updateRecord q (Neighbour.replace now f) rs) q a i = if pairOf a ≤ f.pairs then f.amps[i]? else none := by
  rw [ampEntryAt, freshContents_replaced h]

/-- The record at `q` shows the amplifier of the entry `d` BYPASSED. -/
def ShowsBypassed (rs : List Neighbour) (q : Nat) (d : Demand) : Prop :=
  ∃ e, ampEntryAt rs q d.amp d.amp = some e ∧ e.state = .bypassed

/-- R143 with a FRESH record: the entry stands exactly while the record shows the amplifier BYPASSED, and the others stand. -/
theorem mem_demandUpdate_of_fresh (h : standing rs q = .fresh) (x d : Demand) (ds : List Demand) :
    d ∈ demandUpdate rs q x ds ↔ if d = x then ShowsBypassed rs q d else d ∈ ds := by
  have hremoved : d ∈ ds.filter (· != x) ↔ d ∈ ds ∧ d ≠ x := by simp
  unfold demandUpdate
  rw [h]
  dsimp only
  split
  · next e he =>
    by_cases hd : d = x
    · subst hd
      rw [if_pos rfl, ShowsBypassed, he]
      by_cases hb : e.state = .bypassed
      · rw [if_pos hb]
        refine iff_of_true ?_ ⟨e, rfl, hb⟩
        split
        · assumption
        · simp
      · rw [if_neg hb, hremoved]
        exact iff_of_false (fun h => h.2 rfl) fun ⟨e', he', hb'⟩ => hb (Option.some_inj.1 he' ▸ hb')
    · rw [if_neg hd]
      split
      · split
        · rfl
        · simp [hd]
      · rw [hremoved]
        exact and_iff_left hd
  · next hnone =>
    rw [hremoved]
    by_cases hd : d = x
    · subst hd
      rw [if_pos rfl, ShowsBypassed, hnone]
      exact iff_of_false (fun h => h.2 rfl) fun ⟨e', he', _⟩ => nomatch he'
    · rw [if_neg hd]
      exact and_iff_left hd

theorem mem_foldl_demandUpdate_of_fresh (h : standing rs q = .fresh) (d : Demand) (l ds : List Demand) :
    d ∈ l.foldl (fun ds x => demandUpdate rs q x ds) ds ↔ if d ∈ l then ShowsBypassed rs q d else d ∈ ds := by
  induction l generalizing ds with
  | nil => simp
  | cons x l ih =>
    rw [List.foldl_cons, ih, mem_demandUpdate_of_fresh h]
    by_cases hl : d ∈ l
    · rw [if_pos hl, if_pos (List.mem_cons_of_mem _ hl)]
    · rw [if_neg hl]
      by_cases hx : d = x
      · rw [if_pos hx, if_pos (List.mem_cons.2 (.inl hx))]
      · rw [if_neg hx, if_neg (by simp [hl, hx])]

theorem mem_demandsFrom {c : Commissioning} {d : Demand} :
    d ∈ demandsFrom c q ↔ d.amp < 2 * c.n ∧ demandPos c.position d.amp d.reason = q := by
  obtain ⟨a, reason⟩ := d
  unfold demandsFrom
  rw [List.mem_filter, List.mem_flatMap, beq_iff_eq]
  refine and_congr_left fun _ => ⟨fun ⟨i, hi, hd⟩ => ?_, fun ha => ⟨a, List.mem_range.2 ha, ?_⟩⟩
  · have hi := List.mem_range.1 hi
    simp only [List.mem_cons, List.not_mem_nil, or_false, Demand.mk.injEq] at hd
    rcases hd with ⟨rfl, -⟩ | ⟨rfl, -⟩ <;> exact hi
  · cases reason <;> simp

end

/-- R95: a flag newly set, and one newly clear. -/
theorem Quiet.heard_eq (until_ : Moment) (flag : Bool) (x : Quiet) :
    x.heard until_ flag =
      if x.flag = false ∧ flag = true then { x with flag := true, quietUntil := none }
      else if x.flag = true ∧ flag = false then { x with flag := false, quietUntil := some until_ }
      else x := by
  unfold Quiet.heard
  cases x.flag <;> cases flag <;> rfl

/-- R157: the neighbour's flag is set, and the position is the lower one. -/
theorem State.collisionTest_of_collision {s : State} {q : Nat} {pr : Probe} {w : Moment} (hst : s.pru.state = .probing pr w)
    (hflag : s.neighbourProbing q = true) (hlt : q < s.cfg.position) :
    s.collisionTest q = ((s.abortProbe pr).askRestore ⟨pr.pump, none⟩).report := by
  rw [State.collisionTest, hst]
  exact if_pos (by rw [hflag, decide_eq_true hlt]; rfl)

theorem State.collisionTest_of_not {s : State} {q : Nat}
    (h : (∀ pr w, s.pru.state ≠ .probing pr w) ∨ ¬(q < s.cfg.position ∧ s.neighbourProbing q = true)) :
    s.collisionTest q = s := by
  unfold State.collisionTest
  split
  · next pr w hst =>
    refine if_neg fun hn => ?_
    rw [Bool.and_eq_true, decide_eq_true_eq] at hn
    rcases h with h | h
    · exact h pr w hst
    · exact h ⟨hn.2, hn.1⟩
  · rfl

/-- What a refusal and a collision do: the end of the probe, and after a SCHEDULED one no start pending (R154, R157). -/
theorem ProbeAborted.of_abortProbe {s t : State} {pr : Probe} (hnow : t.now = s.now) (hpru : t.pru = (s.abortProbe pr).pru)
    (hsettle : t.flt.settle = (s.abortProbe pr).flt.settle) : ProbeAborted s t pr := by
  refine ProbeEnded.of_finishProbe (s := { s with pru :=
    { s.pru with scheduled := if pr.source = .scheduled then false else s.pru.scheduled } }) hnow (hpru.trans ?_) hsettle
  have hscheduled : (decide (pr.source ≠ .scheduled) && s.pru.scheduled) =
      if pr.source = .scheduled then false else s.pru.scheduled := by
    by_cases h : pr.source = .scheduled <;> simp [h]
  have hkept : (s.pru.endProbe s.cfg s.now pr.source).scheduled = s.pru.scheduled := by
    unfold Pru.endProbe
    split
    · split <;> rfl
    · rfl
  have habort : (s.abortProbe pr).pru =
      { s.pru.endProbe s.cfg s.now pr.source with
        scheduled := decide (pr.source ≠ .scheduled) && (s.pru.endProbe s.cfg s.now pr.source).scheduled } := rfl
  rw [habort, hkept, hscheduled, State.finishProbe_pru]
  unfold Pru.endProbe
  dsimp only
  split
  · split <;> rfl
  · rfl

/-- What the PRU's collision test makes of a replaced record (R157): an own probe aborted, or nothing. -/
theorem State.tellPru_cases (s : State) (q : Nat) :
    (∃ pr w, s.pru.state = .probing pr w ∧ (q = s.cfg.position - 1 ∨ q = s.cfg.position + 1) ∧ q < s.cfg.position ∧
        s.neighbourProbing q = true ∧ s.tellPru q = ((s.abortProbe pr).askRestore ⟨pr.pump, none⟩).report) ∨
      ((∀ pr w, s.pru.state = .probing pr w →
        ¬((q = s.cfg.position - 1 ∨ q = s.cfg.position + 1) ∧ q < s.cfg.position ∧ s.neighbourProbing q = true)) ∧
        s.tellPru q = s) := by
  unfold State.tellPru
  by_cases hq : q = s.cfg.position - 1 ∨ q = s.cfg.position + 1
  · rw [if_pos hq]
    by_cases hc : ∃ pr w, s.pru.state = .probing pr w ∧ q < s.cfg.position ∧ s.neighbourProbing q = true
    · obtain ⟨pr, w, hst, hlt, hflag⟩ := hc
      exact .inl ⟨pr, w, hst, hq, hlt, hflag, State.collisionTest_of_collision hst hflag hlt⟩
    · refine .inr ⟨fun pr w hst ⟨_, hlt, hflag⟩ => hc ⟨pr, w, hst, hlt, hflag⟩, State.collisionTest_of_not ?_⟩
      by_cases hst : ∃ pr w, s.pru.state = .probing pr w
      · obtain ⟨pr, w, hst⟩ := hst
        exact .inr fun ⟨hlt, hflag⟩ => hc ⟨pr, w, hst, hlt, hflag⟩
      · exact .inl fun pr w h => hst ⟨pr, w, h⟩
  · rw [if_neg hq]
    exact .inr ⟨fun _ _ _ h => hq h.1, rfl⟩

/-- A collision, and the marker reported: the probe ends ABORTED, its restore asked for (R157, R158). -/
theorem State.collision_spec (u : State) (pr : Probe) (x : Tpt) :
    MarkerFollows u { ((u.abortProbe pr).askRestore ⟨pr.pump, none⟩).report with tpt := x } ∧
      ProbeAborted u { ((u.abortProbe pr).askRestore ⟨pr.pump, none⟩).report with tpt := x } pr ∧
      ((u.abortProbe pr).askRestore ⟨pr.pump, none⟩).report.pbc.restores = u.pbc.restores ++ [⟨pr.pump, none⟩] := by
  refine ⟨?_, ProbeAborted.of_abortProbe rfl rfl rfl, rfl⟩
  have h : MarkerFollows u ((u.abortProbe pr).askRestore ⟨pr.pump, none⟩).report := State.report_markerFollows rfl
  exact h

theorem ProbeAborted.of_same {s u t : State} {pr : Probe} (hcfl : u.cfl = s.cfl) (hpru : u.pru = s.pru)
    (hsettle : u.flt.settle = s.flt.settle) (h : ProbeAborted u t pr) : ProbeAborted s t pr := by
  have hu : ProbeAborted { u with cfl := s.cfl, pru := s.pru, flt := { u.flt with settle := s.flt.settle } } t pr := by
    rw [← hcfl, ← hpru, ← hsettle]
    exact h
  exact hu

section
variable {s : State} {f : Frame} {r : Neighbour}

theorem State.heardOf_neighbourProbing (hr : findRecord s.records f.origin = some r) :
    (s.heardOf f).neighbourProbing f.origin = f.probeActive := probeFlag_replaced hr s.now f

/-- The FLT hears of the record (R95); the settle times are the PRU's. -/
theorem State.replaceRecord_flt (hr : findRecord s.records f.origin = some r) :
    (s.replaceRecord f).flt =
      { s.flt with
        settle := (s.replaceRecord f).flt.settle
        quiet := s.flt.quiet.map fun x =>
          if x.pos = f.origin then x.heard (s.now + s.cfg.windowMs) f.probeActive else x } := by
  rw [State.replaceRecord_eq_heardOf, State.offerAll_flt, State.tellPru_eq, ← probeFlag_replaced hr s.now f]
  rfl

/-- The PBC hears of the record (R143); a restore request is the PRU's. -/
theorem State.replaceRecord_pbc (s : State) (f : Frame) :
    (s.replaceRecord f).pbc =
      { s.pbc.hear s.cfg s.now (updateRecord f.origin (Neighbour.replace s.now f) s.records) f.origin with
        restores := (s.replaceRecord f).pbc.restores } := by
  rw [State.replaceRecord_eq_heardOf, State.offerAll_pbc, State.tellPru_eq]
  rfl

/-- The PRU hears of the record (R157). -/
theorem State.replaceRecord_pru_cases (hr : findRecord s.records f.origin = some r) :
    (∃ pr w, s.pru.state = .probing pr w ∧
        ((f.origin = s.cfg.position - 1 ∨ f.origin = s.cfg.position + 1) ∧ f.origin < s.cfg.position ∧ f.probeActive = true) ∧
        MarkerFollows s (s.replaceRecord f) ∧ ProbeAborted s (s.replaceRecord f) pr ∧
        (s.replaceRecord f).pbc.restores = s.pbc.restores ++ [⟨pr.pump, none⟩]) ∨
      ((∀ pr w, s.pru.state = .probing pr w →
        ¬((f.origin = s.cfg.position - 1 ∨ f.origin = s.cfg.position + 1) ∧ f.origin < s.cfg.position ∧ f.probeActive = true)) ∧
        (s.replaceRecord f).ttx = s.ttx ∧ (s.replaceRecord f).pru = s.pru ∧
        (s.replaceRecord f).pbc.restores = s.pbc.restores ∧ (s.replaceRecord f).flt.settle = s.flt.settle) := by
  have hcases := (s.heardOf f).tellPru_cases f.origin
  rw [State.heardOf_neighbourProbing hr] at hcases
  rcases hcases with ⟨pr, w, hst, hq, hlt, hflag, heq⟩ | ⟨hnot, heq⟩
  · refine .inl ⟨pr, w, hst, ⟨hq, hlt, hflag⟩, ?_⟩
    rw [State.replaceRecord_eq_heardOf, State.offerAll_eq, heq]
    obtain ⟨hmarker, haborted, hrestores⟩ := State.collision_spec (s.heardOf f) pr
      ((((s.heardOf f).abortProbe pr).askRestore ⟨pr.pump, none⟩).report.offerAll f.origin (changesFor s.records f)).tpt
    have hheard : (s.heardOf f).pbc.restores = s.pbc.restores := rfl
    exact ⟨hmarker, ProbeAborted.of_same rfl rfl rfl haborted, hrestores.trans (by rw [hheard])⟩
  · refine .inr ⟨hnot, ?_⟩
    rw [State.replaceRecord_eq_heardOf, State.offerAll_eq, heq]
    exact ⟨rfl, rfl, rfl, rfl⟩

end

/-- After an announcement every pump takes the target of R132's sum, as R133 has it. -/
theorem Pbc.hear_steered {p : Pbc} (c : Commissioning) (now : Moment) (rs : List Neighbour) (q : Nat) {j : Nat} {x : Pump}
    (h : p.pumps[j]? = some x) :
    ∃ y, (p.hear c now rs q).pumps[j]? = some y ∧ Steered (c.pump j) now (targetSum c (p.hear c now rs q) j) x y := by
  unfold Pbc.hear
  refine Pbc.retarget_steered _ c now ?_
  exact h

/-- Settles O24: what the FLT and the PBC hear of the new record, and what the collision test of the PRU finds in it. -/
theorem acceptedFrameReachesTheUsers : Obligations.AcceptedFrameReachesTheUsers := by
  intro b i q k bits f r s hk hread hpos hrun hf hr c neighbour source collides t
  obtain rfl : f.origin = q := acceptFrame_origin hf
  refine ⟨fun hd => exec_frameChecked_of_no_directive hk hread hpos hrun hf hd, ?_⟩
  have hs : t = (s.onTracker b i (Tracker.lock s.now (afterFrame (k.ahead ++ bits)))).replaceRecord f := rfl
  have hsame : s.onTracker b i (Tracker.lock s.now (afterFrame (k.ahead ++ bits))) =
      { s with rbe := (s.onTracker b i (Tracker.lock s.now (afterFrame (k.ahead ++ bits)))).rbe,
               rbw := (s.onTracker b i (Tracker.lock s.now (afterFrame (k.ahead ++ bits)))).rbw } := by
    cases b <;> rfl
  rw [hs, hsame]
  generalize (s.onTracker b i (Tracker.lock s.now (afterFrame (k.ahead ++ bits)))).rbe = x
  generalize (s.onTracker b i (Tracker.lock s.now (afterFrame (k.ahead ++ bits)))).rbw = y
  let u : State := { s with rbe := x, rbw := y }
  have hr' : findRecord u.records f.origin = some r := hr
  have hflt := State.replaceRecord_flt hr'
  have hpbc := u.replaceRecord_pbc f
  have hmem (d : Demand) : d ∈ (u.replaceRecord f).pbc.demands ↔
      if d ∈ demandsFrom c f.origin then
        ShowsBypassed (updateRecord f.origin (Neighbour.replace s.now f) s.records) f.origin d
      else d ∈ s.pbc.demands := by
    rw [hpbc]
    exact mem_foldl_demandUpdate_of_fresh (standing_replaced hr s.now f) d _ _
  have hdrawn (d : Demand) : d ∈ demandsFrom c f.origin ↔ d.amp < 2 * c.n ∧ source d.amp d.reason = f.origin := by
    rw [mem_demandsFrom]
    cases d.reason <;> rfl
  refine ⟨?flt, ?pbc, ?pumps, ?quiet, fun d ha hd => ?drawn, fun d hd => ?others, fun j z hz => ?targets, ?pru⟩
  case flt => rw [hflt]
  case pbc => rw [hpbc]; rfl
  case pumps =>
    rw [hpbc]
    exact List.length_mapIdx
  case quiet =>
    rw [hflt]
    refine List.map_congr_left fun z _ => ?_
    by_cases hz : z.pos = f.origin
    · rw [if_pos hz, Quiet.heard_eq]
      simp only [hz, true_and]
      rfl
    · simp only [hz, false_and, if_false]
  case drawn =>
    rw [hmem, if_pos ((hdrawn d).2 ⟨ha, hd⟩), ShowsBypassed]
    simp only [ampEntryAt_replaced hr]
    by_cases hp : pairOf d.amp ≤ f.pairs
    · rw [if_pos hp]
      exact (and_iff_right hp).symm
    · rw [if_neg hp]
      exact iff_of_false (fun ⟨e, he, _⟩ => nomatch he) fun h => hp h.1
  case others => rw [hmem, if_neg (mt (hdrawn d).1 hd)]
  case targets =>
    rw [hpbc]
    exact Pbc.hear_steered c s.now _ f.origin hz
  case pru =>
    have hcollides : ((f.origin = s.cfg.position - 1 ∨ f.origin = s.cfg.position + 1) ∧ f.origin < s.cfg.position ∧
        f.probeActive = true) ↔ collides := Iff.rfl
    rcases State.replaceRecord_pru_cases hr' with ⟨pr, w, hst, hc, haborted⟩ | ⟨hnot, hstands⟩
    · refine ⟨fun pr' w' hst' _ => ?_, fun _ _ _ hn => absurd (hcollides.1 hc) hn, fun hn => absurd hst (hn pr w)⟩
      have hsame : pr = pr' := (ProbeState.probing.inj (hst.symm.trans hst')).1
      exact hsame ▸ haborted
    · exact ⟨fun pr w hst hc => absurd (hcollides.2 hc) (hnot pr w hst), fun _ _ _ _ => hstands, fun _ => hstands⟩

/-! ### The filter's entries (O26) -/

/-- What a directive makes of the entries: nothing, or its origin's entry SETTLED on its id (R62). -/
theorem State.filterDirective_filter (s : State) (origin : Nat) (d : Directive) :
    (s.filterDirective origin d).filter = s.filter ∨
      (origin = s.cfg.west ∨ origin = s.cfg.east) ∧
        ((s.filterDirective origin d).filter = { s.filter with west := ⟨.settled, some d.id⟩ } ∨
          (s.filterDirective origin d).filter = { s.filter with east := ⟨.settled, some d.id⟩ }) := by
  unfold State.filterDirective
  split
  · next hw =>
    refine .inr ⟨.inl hw, .inl ?_⟩
    dsimp only
    split
    · rw [State.execute_filter]
      rfl
    · rfl
  · split
    · next he =>
      refine .inr ⟨.inr he, .inr ?_⟩
      dsimp only
      split
      · rw [State.execute_filter]
        rfl
      · rfl
    · exact .inl rfl

theorem State.deliver_filter (s : State) (f : Frame) :
    (s.deliver f).filter = s.filter ∨
      ∃ d, f.directive = some d ∧ (f.origin = s.cfg.west ∨ f.origin = s.cfg.east) ∧
        ((s.deliver f).filter = { s.filter with west := ⟨.settled, some d.id⟩ } ∨
          (s.deliver f).filter = { s.filter with east := ⟨.settled, some d.id⟩ }) := by
  unfold State.deliver
  split
  · next d hd =>
    have h := (s.replaceRecord f).filterDirective_filter f.origin d
    rw [State.replaceRecord_filter, State.replaceRecord_cfg] at h
    exact h.imp_right fun ⟨ho, hfilter⟩ => ⟨d, hd, ho, hfilter⟩
  · exact .inl (State.replaceRecord_filter s f)

/-- The frame of tracker `i` that a warm restart of this moment has cut (R64). -/
theorem State.cutAt_eq_some {s : State} {b : Bank} {i : Nat} {ahead : List Bool} (h : s.cutAt b i = some ahead) :
    (s.bank b).state = .running ∧ ∃ r, s.restarted = some r ∧ r.moment = s.now ∧ ⟨b, i, ahead⟩ ∈ r.cut := by
  unfold State.cutAt at h
  split at h
  · next r hr =>
    split at h
    · next hnow =>
      obtain ⟨x, hx, hahead⟩ := Option.map_eq_some_iff.1 h
      have hfound := List.find?_some hx
      simp only [Bool.and_eq_true, beq_iff_eq] at hfound
      obtain ⟨rfl, rfl⟩ := hfound
      exact ⟨hnow.2, r, hr, hnow.1, hahead ▸ List.mem_of_find?_eq_some hx⟩
    · cases h
  · cases h

/-- An accepted frame whose directive an authorised end of the line sent, and what it makes of the entries (R62). -/
def FilterTakes (s t : State) (b : Bank) (i : Nat) (bits : List Bool) : Prop :=
  ∃ k q f d ahead, (s.bank b).state = .running ∧ (s.bank b).trackers[i]? = some k ∧ k.pos = some q ∧
    (k.reception = .reading ∧ ahead = k.ahead ∨
      k.reception ≠ .reading ∧ ∃ r, s.restarted = some r ∧ r.moment = s.now ∧ ⟨b, i, ahead⟩ ∈ r.cut) ∧
    acceptFrame q (ahead ++ bits) = some f ∧
    f.directive = some d ∧ (q = s.cfg.west ∨ q = s.cfg.east) ∧
    (t.filter = { s.filter with west := ⟨.settled, some d.id⟩ } ∨
      t.filter = { s.filter with east := ⟨.settled, some d.id⟩ })

theorem exec_frameChecked_filter {s t : State} {b : Bank} {i : Nat} {bits : List Bool}
    (h : exec (.frameChecked b i bits) s = .next t) : t.filter = s.filter ∨ FilterTakes s t b i bits := by
  simp only [exec] at h
  unfold execFrameChecked at h
  split at h
  case h_2 =>
    cases h
    exact .inl rfl
  case h_1 k hk =>
    split at h
    case h_3 =>
      cases h
      exact .inl rfl
    case h_1 q hread hpos =>
      dsimp only at h
      split at h
      case isFalse =>
        cases h
        exact .inl (by simp)
      case isTrue hrun =>
        split at h
        case h_2 =>
          cases h
          exact .inl (by simp)
        case h_1 f hf =>
          cases h
          have hd := (s.onTracker b i (Tracker.lock s.now (afterFrame (k.stream bits)))).deliver_filter f
          rw [State.onTracker_filter, State.onTracker_cfg] at hd
          refine hd.imp_right fun ⟨d, hdir, ho, hfilter⟩ => ?_
          rw [acceptFrame_origin hf] at ho
          exact ⟨k, q, f, d, k.ahead, hrun, hk, hpos, .inl ⟨hread, rfl⟩, hf, hdir, ho, hfilter⟩
    case h_2 q hpos hnot =>
      split at h
      case h_2 =>
        cases h
        exact .inl rfl
      case h_1 ahead hcut =>
        cases h
        obtain ⟨hrun, r, hr, hnow, hmem⟩ := State.cutAt_eq_some hcut
        have hread : k.reception ≠ .reading := fun hn => by simp_all
        rcases s.takeCut_cases b i q (ahead ++ bits) with heq | ⟨f, d, hf, hdir, -, -, heq⟩
        · exact .inl (by rw [heq])
        · rw [heq]
          generalize Config.restartsTogether s.spare = together
          cases together
          · exact .inl (by simp [State.takeSecond])
          · have hd := ((s.settleCut b i).spend.onTracker b i
              (Tracker.lock s.now (afterFrame (ahead ++ bits)))).deliver_filter f
            simp only [State.onTracker_filter, State.onTracker_cfg, State.spend_filter, State.settleCut_filter,
              State.spend_cfg, State.settleCut_cfg] at hd
            refine hd.imp_right fun ⟨d', hdir', ho, hfilter⟩ => ?_
            rw [acceptFrame_origin hf] at ho
            exact ⟨k, q, f, d', ahead, hrun, hk, hpos, .inr ⟨hread, r, hr, hnow, hmem⟩, hf, hdir', ho, hfilter⟩

/-- Settles O26: only an accepted frame's directive reaches the entries, and it leaves the origin's SETTLED. -/
theorem filterEntriesStaySettled : Obligations.FilterEntriesStaySettled := by
  intro s t hstep hcold
  have hmain : t.filter = s.filter ∨
      ∃ b i bits, s.pending.head? = some (.frameChecked b i bits) ∧ FilterTakes s t b i bits := by
    rcases step_cases s t hstep with ⟨c, rest, hp, he⟩ | ⟨-, bits, c, spi, hd, he⟩ | ⟨-, spi, rfl⟩ | ⟨-, -, rfl⟩
    · rw [hp, List.head?_cons] at hcold
      cases c
      case coldStart => exact absurd rfl hcold
      case frameChecked b i bits =>
        rcases exec_frameChecked_filter he with hkeep | htakes
        · exact .inl hkeep
        · refine .inr ⟨b, i, bits, by rw [hp]; rfl, ?_⟩
          cases b <;> exact htakes
      all_goals exact .inl ((exec_touch _ _ _ he).filter rfl)
    · exact .inl ((taken_touch bits c _ t hd he).filter rfl)
    · exact .inl rfl
    · exact .inl rfl
  refine ⟨fun hw => ?west, fun hw => ?east, fun hne => ?frame⟩
  case west =>
    rcases hmain with h | ⟨b, i, bits, -, k, q, f, d, ahead, -, -, -, -, -, -, -, h | h⟩ <;> rw [h]
    · exact hw
    · exact hw
  case east =>
    rcases hmain with h | ⟨b, i, bits, -, k, q, f, d, ahead, -, -, -, -, -, -, -, h | h⟩ <;> rw [h]
    · exact hw
    · exact hw
  case frame =>
    rcases hmain with h | ⟨b, i, bits, hhead, k, q, f, d, ahead, htakes⟩
    · exact absurd h hne
    · exact ⟨b, i, bits, k, q, f, d, ahead, hhead, htakes⟩

end Sys2Proof.Machine
end

section
/-! Frames sent and the pins (O28, O29): a snapshot carries what each owner holds, the amplifier state by the first line that
applies, and the tone on the output pins. -/

namespace Sys2Proof.Machine

/-! ### The snapshot (O28) -/

theorem exec_frameSnapshot {s : State} {x : Sending} (h : s.ttx = .sending x) :
    exec .frameSnapshot s =
      .next { s with now := max s.now x.ends, ttx := .sending (x.next x.ends (s.snapshot x.marker)) } := by
  simp only [exec, execFrameSnapshot, h]
  rfl

theorem frameBits_length {f : Frame} (hamps : f.amps.length = 2 * f.pairs) (hpumps : f.pumps.length = f.pumpCount) :
    (frameBits f).length = 16 + f.coveredSize + 16 := by
  simp only [frameBits, afterSyncBits, List.length_append, bitsOf_length, coveredBits_length hamps hpumps, Nat.add_assoc]

theorem State.ownAmps_getElem? {s : State} {a : Nat} {span : SpanEntry} {amp : AmpEntry} (hs : s.flt.spans[a]? = some span)
    (ha : s.flt.amps[a]? = some amp) : s.ownAmps[a]? = some (s.ownAmp a span amp) := by
  have hzip : (s.flt.spans.zip s.flt.amps)[a]? = some (span, amp) := List.getElem?_zip_eq_some.2 ⟨hs, ha⟩
  rw [State.ownAmps, List.getElem?_mapIdx, hzip]
  rfl

theorem State.ownPumps_getElem? {s : State} {j : Nat} {x : Pump} {e : PumpEntry} (hx : s.pbc.pumps[j]? = some x)
    (he : s.flt.pumps[j]? = some e) : s.ownPumps[j]? = some ⟨⟨x.state, e.verdict⟩, e.since⟩ := by
  have hzip : (s.pbc.pumps.zip s.flt.pumps)[j]? = some (x, e) := List.getElem?_zip_eq_some.2 ⟨hx, he⟩
  rw [State.ownPumps, List.getElem?_map, hzip]
  rfl

theorem Lmu.sIn_of_tracking {l : Lmu} {a : Nat} {last v : Int} {cls : LightClass}
    (h : l.inputs[a]? = some (.tracking last v cls)) : l.sIn a = v ∧ l.cls a = cls := by
  rw [Lmu.sIn, Lmu.sIn?, Lmu.cls, Lmu.cls?, h]
  exact ⟨rfl, rfl⟩

theorem Lmu.sOut_of_tracking {l : Lmu} {a : Nat} {last v : Int} (h : l.outputs[a]? = some (.tracking last v)) :
    l.sOut a = v := by
  rw [Lmu.sOut, Lmu.sOut?, h]
  rfl

/-- Settles O28: the snapshot is read item by item from its owners. -/
theorem snapshotCarriesTheOwnersValues : Obligations.SnapshotCarriesTheOwnersValues := by
  intro x s hx hspans hamps hpumps hpbc spanVerdict gainVerdict pumpVerdict
  have hlenAmps : (s.snapshot x.marker).amps.length = 2 * s.cfg.n := by
    simp [State.snapshot, State.ownAmps, hspans, hamps]
  have hlenPumps : (s.snapshot x.marker).pumps.length = s.cfg.m := by
    simp [State.snapshot, State.ownPumps, hpumps, hpbc]
  refine ⟨s.snapshot x.marker, ?exec, rfl, rfl, rfl, rfl, rfl, fun pr w hst => ?probing, fun hst => ?notProbing, rfl, hlenAmps,
    hlenPumps, fun a sIn cls lastIn sOut lastOut eS eA hin hout hs ha => ⟨?amp, fun v hv => ?span⟩, fun j y e hy he => ?pump⟩
  case exec =>
    have hlen := frameBits_length (f := s.snapshot x.marker) hlenAmps hlenPumps
    have htime : frameTime (s.snapshot x.marker) = 8 * (35 + 41 * (2 * s.cfg.n) + 4 * s.cfg.m +
        (if (s.snapshot x.marker).directive.isSome then 14 else 0) + 16) := by
      rw [frameTime, hlen, Frame.coveredSize, show (s.snapshot x.marker).pairs = s.cfg.n from rfl,
        show (s.snapshot x.marker).pumpCount = s.cfg.m from rfl, Config.bitTime]
      omega
    rw [exec_frameSnapshot hx, Sending.next, htime]
    have hphase (k : Nat) : (k % 2 == 1) = decide (k % 2 = 1) := rfl
    cases x.frame with
    | none => simp
    | some old => simp only [isReversed, reversals, hphase]
  case probing => simp [State.snapshot, Pru.flag, hst]
  case notProbing =>
    have hflag : s.pru.flag = none := by
      unfold Pru.flag
      split
      · next pr w h => exact absurd h (hst pr w)
      · rfl
    simp [State.snapshot, hflag]
  case amp =>
    obtain ⟨hsIn, hcls⟩ := Lmu.sIn_of_tracking hin
    have hgain : gainVerdict eA = eA.verdict := by
      simp only [gainVerdict, AmpEntry.verdict]
      cases eA.state <;> rfl
    rw [hgain]
    simp only [State.snapshot, List.getElem?_map, State.ownAmps_getElem? hs ha, Option.map_some, State.ownAmp, hsIn, hcls,
      Lmu.sOut_of_tracking hout]
  case span =>
    simp only [spanVerdict] at hv
    unfold SpanEntry.verdict
    generalize e_state : eS.state = st at hv ⊢
    generalize e_kind : eS.kind = kind at hv ⊢
    cases st
    case clear =>
      cases hv
      rfl
    case suspect =>
      cases hv
      rfl
    case faulty => cases kind <;> cases hv <;> rfl
  case pump =>
    have hverdict : pumpVerdict e = e.verdict := by
      simp only [pumpVerdict, PumpEntry.verdict]
      cases e.state <;> rfl
    rw [hverdict]
    simp only [State.snapshot, List.getElem?_map, State.ownPumps_getElem? hy he, Option.map_some]

/-! ### The amplifier state and the pins (O29) -/

section
variable {p : Pbc}

theorem Pbc.isIn_pair_iff (j : Nat) (s1 s2 : PumpState) :
    p.isIn j [s1, s2] = true ↔ (∃ x, p.pumps[j]? = some x ∧ x.state = s1) ∨ ∃ x, p.pumps[j]? = some x ∧ x.state = s2 := by
  unfold Pbc.isIn
  cases p.pumps[j]? <;> simp

/-- R26, line by line. -/
theorem Pbc.ampState_cases (p : Pbc) (c : Commissioning) (a : Nat) :
    let unpumped : Prop := ∀ j, j < p.pumps.length ∧ c.feeds j a = true → p.isIn j [.off, .floor] = true
    let compensating : Prop :=
      ∃ j, (j < p.pumps.length ∧ c.feeds j a = true) ∧ p.isIn j [.active, .probe] = true ∧ p.incremented c j = true
    (p.bypassed a = true → p.ampState c a = .bypassed) ∧
    (¬p.bypassed a = true → unpumped → p.ampState c a = .unpumped) ∧
    (¬p.bypassed a = true → ¬unpumped → compensating → p.ampState c a = .compensating) ∧
    (¬p.bypassed a = true → ¬unpumped → ¬compensating → p.ampState c a = .normal) := by
  intro unpumped compensating
  have hunpumped : (p.feeders c a).all (fun j => p.isIn j [.off, .floor]) = true ↔ unpumped := by
    simp only [List.all_eq_true, Pbc.mem_feeders, unpumped]
  have hcompensating : (p.feeders c a).any (fun j => p.isIn j [.active, .probe] && p.incremented c j) = true ↔
      compensating := by
    simp only [List.any_eq_true, Pbc.mem_feeders, Bool.and_eq_true, compensating]
  unfold Pbc.ampState
  refine ⟨fun h => if_pos h, fun h hu => ?_, fun h hu hc => ?_, fun h hu hc => ?_⟩
  · rw [if_neg h, if_pos (hunpumped.2 hu)]
  · rw [if_neg h, if_neg (mt hunpumped.1 hu), if_pos (hcompensating.2 hc)]
  · rw [if_neg h, if_neg (mt hunpumped.1 hu), if_neg (mt hcompensating.1 hc)]

end

theorem bits_begun {begins now i : Nat} (h1 : begins + 8 * i ≤ now) (h2 : now < begins + 8 * (i + 1)) :
    (now - begins) / 8 + 1 = i + 1 := by
  omega

theorem Sending.bitsBegun_eq {x : Sending} {f : Frame} {now : Moment} {i : Nat}
    (h1 : x.ends + 8 * i ≤ now + 8 * (frameBits f).length) (h2 : now + 8 * (frameBits f).length < x.ends + 8 * (i + 1)) :
    x.bitsBegun now f = i + 1 := bits_begun h1 h2

theorem State.carrying_iff {s : State} {j : Nat} {x : Pump} (hx : s.pbc.pumps[j]? = some x) :
    s.carrying j = true ↔
      x.state ≠ .off ∧ (s.cfg.feeds j (s.cfg.supAmp .e) = true ∨ s.cfg.feeds j (s.cfg.supAmp .w) = true) := by
  have hlit : s.pbc.Lit j ↔ x.state ≠ .off :=
    ⟨fun ⟨y, hy, hne⟩ => Option.some_inj.1 (hx.symm.trans hy) ▸ hne, fun hne => ⟨x, hx, hne⟩⟩
  rw [State.carrying, Bool.and_eq_true, Bool.or_eq_true, Pbc.isIn_lit_iff, hlit]

theorem State.tone_isSome_iff (s : State) : s.tone.isSome = true ↔ s.ttx ≠ .silent := by
  unfold State.tone
  cases s.ttx <;> simp

/-- Settles O29: the lines of R26 in order, and each pin from the state it follows. -/
theorem amplifierStateFollowsThePumps : Obligations.AmplifierStateFollowsThePumps := by
  constructor
  · intro p c a inState feeds demanded redundant unpumped compensating
    have hinc (j : Nat) : p.incremented c j = true ↔ demanded j ∨ redundant j := by
      rw [Pbc.incremented_iff]
      simp only [Commissioning.intersects_iff]
      refine or_congr_right ⟨fun ⟨i, x, hne, hx, hoff, hi⟩ => ⟨i, hne, ⟨x, hx, hoff⟩, hi⟩,
        fun ⟨i, hne, ⟨x, hx, hoff⟩, hi⟩ => ⟨i, x, hne, hx, hoff, hi⟩⟩
    have h := p.ampState_cases c a
    simp only [hinc, Pbc.isIn_pair_iff, Pbc.bypassed_iff] at h
    exact h
  · intro s c offset carries
    have hvalid (a : Nat) (h : s.cfl.valid = true) : s.bypassPin a = if s.pbc.bypassed a then .set else .inLine := if_pos h
    refine ⟨rfl, fun h => ?silent, fun x hx => ?sending, fun j x hx => ?driver, fun j h => ?noPump,
      fun a => ⟨fun h => if_neg (by rw [h]; decide), fun h hb => ?set, fun h hb => ?inLine⟩, fun h => ?inactive, fun h ht => ?attn⟩
    case silent => rw [State.tone, h]
    case sending =>
      have hfrequency : (slotCentre c.position : Int) + x.marker.offset = 200000 + 1000 * c.position + offset x.marker := by
        rw [slotCentre]
        push_cast
        cases x.marker <;> rfl
      refine ⟨x.frame.elim x.reversed fun f => isReversed x.reversed (reversals ((frameBits f).take (x.bitsBegun s.now f))),
        ?_, fun hn => by rw [hn]; rfl, ?_⟩
      · rw [State.tone, hx, ← hfrequency]
        dsimp only
        cases x.frame <;> rfl
      · intro f i hf sent h1 h2
        rw [hf, Option.elim_some, Sending.bitsBegun_eq h1 h2]
        rfl
    case driver =>
      have hdriver : s.driverPin j = .driven (x.state != .off) x.applied
          (if s.carrying j && s.tone.isSome then ditherSwing x.applied s.cfg.dither else 0) := by
        rw [State.driverPin, hx]
      have hcarries := State.carrying_iff hx
      refine ⟨fun ht hc => ?_, fun h => ?_⟩
      · rw [hdriver, if_pos (by rw [hcarries.2 hc, s.tone_isSome_iff.2 ht]; rfl), bne_iff_ne.2 hc.1]
        rfl
      · rw [hdriver, if_neg, show (x.state != .off) = decide (x.state ≠ .off) by cases x.state <;> rfl]
        rw [Bool.and_eq_true, hcarries, s.tone_isSome_iff]
        rintro ⟨hc, ht⟩
        exact h.elim ht fun hn => hn hc
    case noPump => rw [State.driverPin, h]
    case set => rw [hvalid a h, if_pos ((s.pbc.bypassed_iff a).2 hb)]
    case inLine => rw [hvalid a h, if_neg (mt (s.pbc.bypassed_iff a).1 hb)]
    case inactive =>
      refine if_neg fun hport => ?_
      obtain ⟨hheld, hstrap⟩ := s.portActive_iff.1 hport
      rcases h with h | h
      · rw [hheld] at h
        cases h
      · exact h hstrap
    case attn =>
      rw [State.attention, if_pos (s.portActive_iff.2 ⟨h, ht⟩)]
      rcases s.tpt.causes with ⟨c1, c2, c3, c4, c5⟩
      cases c1 <;> cases c2 <;> cases c3 <;> cases c4 <;> cases c5 <;> rfl

end Sys2Proof.Machine
end

section
/-! The Observation Table in time (O30): an age step, and what its users hear when the record goes STALE. -/

namespace Sys2Proof.Machine

theorem findRecord_updateRecord_of_ne {g : Neighbour → Neighbour} (hg : ∀ x, (g x).origin = x.origin) {q q' : Nat}
    (hne : q' ≠ q) (rs : List Neighbour) : findRecord (updateRecord q g rs) q' = findRecord rs q' := by
  unfold findRecord updateRecord
  rw [List.find?_map]
  have hcomp : ((fun x : Neighbour => x.origin == q') ∘ fun x => if x.origin = q then g x else x) =
      fun x : Neighbour => x.origin == q' := by
    funext x
    dsimp only [Function.comp]
    split
    · rw [hg]
    · rfl
  rw [hcomp]
  cases h : rs.find? fun x => x.origin == q' with
  | none => rfl
  | some x =>
    have horigin : x.origin = q' := by simpa using List.find?_some h
    rw [Option.map_some, if_neg (by rw [horigin]; exact hne)]

/-- R76: below the saturation the age advances by one, and a FRESH record that exceeds its limit is STALE. -/
theorem Neighbour.tick_eq {r : Neighbour} (h : r.age < 65535) (limit : Nat) :
    r.tick limit =
      { r with age := r.age + 1,
               freshness := if r.freshness = .fresh ∧ 10 * limit < r.age + 1 then .stale else r.freshness } := by
  have hage : min Config.ageMax (r.age + 1) = r.age + 1 := by
    unfold Config.ageMax
    omega
  rw [Neighbour.tick, hage]

/-- The state after an age step of the record `r` at `q`, before its users hear of it. -/
def State.aged (s : State) (q : Nat) (r : Neighbour) : State :=
  { s with now := max s.now (r.since + 100 * (r.age + 1)), records := updateRecord q (Neighbour.tick s.cfg.stale) s.records }

section
variable {s : State} {q : Nat} {r : Neighbour}

theorem State.aged_record (hr : findRecord s.records q = some r) (h : r.age < 65535) :
    findRecord (s.aged q r).records q =
      some { r with age := r.age + 1,
                    freshness := if r.freshness = .fresh ∧ 10 * s.cfg.stale < r.age + 1 then .stale else r.freshness } := by
  rw [State.aged, findRecord_updateRecord (g := Neighbour.tick s.cfg.stale) (fun _ => rfl) hr, Neighbour.tick_eq h]

theorem State.aged_standing_iff (hr : findRecord s.records q = some r) (h : r.age < 65535) :
    (r.freshness = .fresh ∧ standing (s.aged q r).records q = .stale) ↔ r.freshness = .fresh ∧ 10 * s.cfg.stale < r.age + 1 := by
  refine and_congr_right fun hf => ?_
  rw [standing, State.aged_record hr h]
  dsimp only
  by_cases hl : 10 * s.cfg.stale < r.age + 1
  · rw [if_pos ⟨hf, hl⟩]
    exact iff_of_true rfl hl
  · rw [if_neg fun hn => hl hn.2, hf]
    exact iff_of_false (by decide) hl

theorem exec_recordAgeTick {q : Byte} (hr : findRecord s.records q.toNat = some r) (h : r.age < 65535) :
    exec (.recordAgeTick q) s =
      .next (if r.freshness = .fresh ∧ 10 * s.cfg.stale < r.age + 1 then
        ((s.aged q.toNat r).tellFlt q.toNat).tellPbc q.toNat else s.aged q.toNat r) := by
  simp only [exec, execRecordAgeTick, hr]
  rw [if_pos (show r.age < Config.ageMax from h)]
  by_cases hs : r.freshness = .fresh ∧ 10 * s.cfg.stale < r.age + 1
  · rw [if_pos hs]
    exact if_pos ((State.aged_standing_iff hr h).2 hs)
  · rw [if_neg hs]
    exact if_neg (mt (State.aged_standing_iff hr h).1 hs)

end

/-- R143: a STALE record holds the Demand List. -/
theorem Pbc.hear_of_stale {rs : List Neighbour} {q : Nat} (h : standing rs q = .stale) (p : Pbc) (c : Commissioning)
    (now : Moment) : p.hear c now rs q = p.retarget c now := by
  have hfold (l : List Demand) (ds : List Demand) : l.foldl (fun ds d => demandUpdate rs q d ds) ds = ds := by
    induction l with
    | nil => rfl
    | cons d l ih =>
      rw [List.foldl_cons, show demandUpdate rs q d ds = ds by rw [demandUpdate, h]]
      exact ih
  rw [Pbc.hear, hfold]

theorem probeFlag_of_stale {rs : List Neighbour} {q : Nat} {r : Neighbour} (hr : findRecord rs q = some r)
    (hf : r.freshness = .stale) : probeFlag rs q = none := by
  rw [probeFlag, freshContents, hr]
  simp [hf]

/-- Settles O30: the age step, and the two users that hear of STALED. -/
theorem recordsAgeAndGoStale : Obligations.RecordsAgeAndGoStale := by
  intro q r s hr hage staled
  refine ⟨_, exec_recordAgeTick hr hage, ?_⟩
  have hrecord := State.aged_record hr hage
  have hothers (q' : Nat) (hq : q' ≠ q.toNat) : findRecord (s.aged q.toNat r).records q' = findRecord s.records q' :=
    findRecord_updateRecord_of_ne (g := Neighbour.tick s.cfg.stale) (fun _ => rfl) hq s.records
  by_cases hs : staled
  · rw [if_pos hs]
    have hstanding : standing (s.aged q.toNat r).records q.toNat = .stale := ((State.aged_standing_iff hr hage).2 hs).2
    have hpbc : (((s.aged q.toNat r).tellFlt q.toNat).tellPbc q.toNat).pbc = s.pbc.retarget s.cfg (s.aged q.toNat r).now :=
      Pbc.hear_of_stale hstanding _ _ _
    have hflag : probeFlag (s.aged q.toNat r).records q.toNat = none := probeFlag_of_stale hrecord (if_pos hs)
    refine ⟨?frame, hrecord, hothers, fun _ => ?quiet, fun _ j x hx => ?targets, fun hsound hcurrent => ?stands,
      fun hn => absurd hs hn⟩
    case frame =>
      rw [hpbc, Pbc.retarget]
      exact congrArg (fun p : Pbc => { (s.aged q.toNat r).tellFlt q.toNat with pbc := p }) hpbc
    case quiet =>
      refine List.map_congr_left fun x _ => ?_
      rw [hflag]
      by_cases hx : x.pos = q.toNat
      · rw [if_pos hx, Quiet.heard_eq]
        simp [hx]
        rfl
      · simp [hx]
    case targets =>
      rw [hpbc]
      obtain ⟨y, hy, hsteered⟩ := Pbc.retarget_steered s.pbc s.cfg (s.aged q.toNat r).now hx
      rw [targetSum_congr (Pbc.retarget_demands ..) (Pbc.retarget_states ..)] at hsteered
      exact ⟨y, hy, hsteered⟩
    case stands => rw [hpbc, Pbc.retarget_stands _ hsound hcurrent]
  · rw [if_neg hs]
    exact ⟨rfl, hrecord, hothers, fun h => absurd h hs, fun h => absurd h hs, fun _ _ => rfl, fun _ => ⟨rfl, rfl⟩⟩

end Sys2Proof.Machine
end

section
/-! A judgement epoch (O32): the scores, the attribution, the requests and the round asked for. -/

namespace Sys2Proof.Machine

/-! ### Scores (R106, R107) -/

theorem rescored_eq (c : Commissioning) (before : Suspicion) (old new : Nat) :
    rescored c before old new =
      if new = old then before
      else if before = .faulty ∧ c.lr < new then .faulty
      else if before ≠ .faulty ∧ c.ld ≤ new then .faulty
      else if c.ls ≤ new then .suspect else .clear := by
  unfold rescored levelRule
  cases before <;> simp

theorem scoreOf_eq (old weight : Nat) (e : Evidence) :
    scoreOf old weight e = match e with
      | .bad => min 255 (old + weight) | .good => old - 1 | .neutral => old | .held => old := by
  cases e <;> rfl

/-! ### Lists made entry by entry -/

theorem flatten_mapIdx {α γ : Type} {g : Nat → α → List γ} {h : Nat → List γ} {l : List α}
    (hg : ∀ (i : Nat) x, l[i]? = some x → g i x = h i) : (l.mapIdx g).flatten = (List.range l.length).flatMap h := by
  rw [List.flatMap_def]
  congr 1
  apply List.ext_getElem
  · simp
  · intro i h1 h2
    rw [List.length_mapIdx] at h1
    simp only [List.getElem_mapIdx, List.getElem_map, List.getElem_range]
    exact hg i _ (List.getElem?_eq_getElem h1)

theorem newlyDeficient_iff {before after : List PumpEntry} :
    newlyDeficient before after = true ↔
      ∃ (j : Nat) (e e' : PumpEntry), before[j]? = some e ∧ after[j]? = some e' ∧ e.deficient = false ∧ e'.deficient = true := by
  rw [newlyDeficient, List.any_eq_true]
  constructor
  · rintro ⟨⟨e, e'⟩, hmem, hd⟩
    obtain ⟨j, hj⟩ := List.getElem?_of_mem hmem
    obtain ⟨h1, h2⟩ := List.getElem?_zip_eq_some.1 hj
    rw [Bool.and_eq_true, Bool.not_eq_true'] at hd
    exact ⟨j, e, e', h1, h2, hd⟩
  · rintro ⟨j, e, e', h1, h2, hd, hd'⟩
    exact ⟨(e, e'), List.mem_of_getElem? (List.getElem?_zip_eq_some.2 ⟨h1, h2⟩), by rw [hd, hd']; rfl⟩

/-! ### The round asked for (R114, R153) -/

/-- `u` with another Suspect Table and other isolation requests, of which the PRU knows nothing. -/
def State.retabled (u : State) (f : Flt) (i : List IsolationRequest) : State :=
  { u with flt := f, pbc := { u.pbc with isolations := i } }

theorem State.takeTurn_retabled (u : State) (f : Flt) (i : List IsolationRequest) (l : List Nat) :
    (u.retabled f i).takeTurn l = (u.takeTurn l).retabled f i := by
  induction l with
  | nil => rfl
  | cons j l ih =>
    by_cases he : u.eligible j = true
    · have he' : (u.retabled f i).eligible j = true := he
      by_cases hm : u.mayStart j = true
      · have hm' : (u.retabled f i).mayStart j = true := hm
        simp only [State.takeTurn, he, he', hm, hm', if_true]
        rfl
      · have hm' : ¬(u.retabled f i).mayStart j = true := hm
        simp only [State.takeTurn, he, he', hm, hm', if_true]
        rfl
    · have he' : ¬(u.retabled f i).eligible j = true := he
      simp only [State.takeTurn, he, he']
      exact ih

theorem State.requestRound_retabled (u : State) (f : Flt) (i : List IsolationRequest) :
    (u.retabled f i).requestRound = u.requestRound.retabled f i := by
  cases hr : u.pru.round with
  | some r =>
    have hr' : (u.retabled f i).pru.round = some r := hr
    simp only [State.requestRound, hr, hr']
  | none =>
    have hr' : (u.retabled f i).pru.round = none := hr
    by_cases hi : u.pru.isIdle = true
    · have hi' : (u.retabled f i).pru.isIdle = true := hi
      simp only [State.requestRound, hr, hr', hi, hi', if_true]
      exact State.takeTurn_retabled { u with pru := { u.pru with scheduled := false, round := none } } f i (List.range u.cfg.m)
    · have hi' : ¬(u.retabled f i).pru.isIdle = true := hi
      simp only [State.requestRound, hr, hr', hi, hi']
      rfl

theorem State.takeTurn_eq (u : State) (l : List Nat) :
    u.takeTurn l =
      { u with pru := (u.takeTurn l).pru, pbc := { u.pbc with driveRequests := (u.takeTurn l).pbc.driveRequests } } := by
  induction l with
  | nil => rfl
  | cons j l ih =>
    unfold State.takeTurn
    split
    · split <;> rfl
    · exact ih

/-- A request for a round moves the PRU, and may ask the PBC for PROBE drive. -/
theorem State.requestRound_eq (u : State) :
    u.requestRound =
      { u with pru := u.requestRound.pru, pbc := { u.pbc with driveRequests := u.requestRound.pbc.driveRequests } } := by
  unfold State.requestRound
  split
  · rfl
  · dsimp only
    split
    · rw [State.takeTurn_eq]
    · rfl

/-! ### The entries (R105 to R117) -/

section
variable {s : State}

theorem State.judged_amps_getElem? (s : State) (a : Nat) :
    s.judged.amps[a]? = s.flt.amps[a]?.map fun e =>
      (e.scored s.cfg s.cfl.clock (s.ampResult a)).attribute (s.pumpSuspected s.judged a) := by
  show ((s.stage1.amps).mapIdx fun a e => e.attribute (s.pumpSuspected s.judged a))[a]? = _
  simp [State.stage1, Function.comp_def]

theorem State.pumpSuspected_iff (s : State) (f : Flt) (a : Nat) :
    s.pumpSuspected f a = true ↔
      ∃ j x, j < s.pbc.pumps.length ∧ s.cfg.feeds j a = true ∧ f.pumps[j]? = some x ∧
        (x.state ≠ .clear ∨ x.deficient = true) := by
  simp only [State.pumpSuspected, List.any_eq_true, Pbc.mem_feeders, Option.any_eq_true, Bool.or_eq_true, bne_iff_ne]
  constructor
  · rintro ⟨j, ⟨hj, hf⟩, x, hx, h⟩
    exact ⟨j, x, hj, hf, hx, h⟩
  · rintro ⟨j, x, hj, hf, hx, h⟩
    exact ⟨j, ⟨hj, hf⟩, x, hx, h⟩

theorem AmpEntry.scored_of_unlatched {e : AmpEntry} (hl : e.latch = false) (c : Commissioning) (clock : Nat) (r : AmpResult) :
    e.scored c clock r =
      { e with
        score := scoreOf e.score c.wg r.evidence
        state := rescored c e.state e.score (scoreOf e.score c.wg r.evidence)
        kind :=
          if r.evidence = .bad then r.kind
          else if rescored c e.state e.score (scoreOf e.score c.wg r.evidence) = .clear ∧ e.state ≠ .clear then .none
          else e.kind
        since := sinceOf clock e.since e.state (rescored c e.state e.score (scoreOf e.score c.wg r.evidence)) } :=
  if_neg (by simp [hl])

theorem AmpEntry.attribute_eq (suspected : Bool) (x : AmpEntry) :
    x.attribute suspected = { x with kind := (x.attribute suspected).kind } := by
  unfold AmpEntry.attribute
  split <;> rfl

theorem AmpEntry.attribute_kind {x : AmpEntry} (hl : x.latch = false) (suspected : Bool) :
    (x.attribute suspected).kind =
      if x.kind = .deficit ∨ x.kind = .pumpAttributed then (if suspected = true then .pumpAttributed else .deficit)
      else x.kind := by
  unfold AmpEntry.attribute
  by_cases h : x.kind = .deficit ∨ x.kind = .pumpAttributed
  · rw [if_pos h, if_pos (by simpa [hl] using h)]
  · rw [if_neg h, if_neg (by simpa [hl] using h)]

/-- Attribution turns DEFICIT and PUMP_ATTRIBUTED into each other, and nothing else. -/
theorem AmpEntry.attribute_deficient (suspected : Bool) (e : AmpEntry) :
    (e.attribute suspected).deficient = e.deficient := by
  unfold AmpEntry.attribute
  split
  · next h =>
    rw [Bool.and_eq_true] at h
    unfold AmpEntry.deficient
    cases suspected <;> simp [h.2]
  · rfl

theorem AmpEntry.deficient_iff (e : AmpEntry) :
    e.deficient = true ↔ e.state ≠ .clear ∧ (e.kind = .deficit ∨ e.kind = .pumpAttributed) := by
  simp [AmpEntry.deficient]

/-- The members of a pump's group (R114, R151): those whose bypass switch is not set. -/
theorem members_eq (c : Commissioning) (p : Pbc) (j : Nat) :
    ((c.group j).filter fun a => !p.bypassed a) =
      (List.range (2 * c.n)).filter fun a => c.feeds j a && decide (p.bypass[a]? ≠ some true) := by
  rw [Commissioning.group, List.filter_filter]
  refine List.filter_congr fun a _ => ?_
  have hb : (!p.bypassed a) = decide (p.bypass[a]? ≠ some true) := by
    rw [Bool.eq_iff_iff, Bool.not_eq_true', Bool.eq_false_iff, decide_eq_true_eq, ne_eq, Pbc.bypassed_iff]
  rw [hb, Bool.and_comm]

theorem State.judged_pumps_getElem? (s : State) (j : Nat) :
    s.judged.pumps[j]? = s.flt.pumps[j]?.map fun e => e.attribute s.cfg s.cfl.clock (s.whollyDeficient s.judged j) := by
  have hwholly : s.whollyDeficient s.judged j = s.whollyDeficient s.stage1 j := by
    unfold State.whollyDeficient
    dsimp only
    refine congrArg (_ && ·) (List.all_congr rfl fun a => ?_)
    have hamps : s.judged.amps[a]? = s.stage1.amps[a]?.map fun e => e.attribute (s.pumpSuspected s.judged a) :=
      List.getElem?_mapIdx
    rw [hamps]
    cases s.stage1.amps[a]? with
    | none => rfl
    | some e => exact AmpEntry.attribute_deficient _ e
  rw [hwholly]
  exact List.getElem?_mapIdx

/-- R114: two or more members, all of them deficient. -/
theorem State.whollyDeficient_iff (s : State) (f : Flt) (j : Nat) :
    s.whollyDeficient f j = true ↔
      2 ≤ ((List.range (2 * s.cfg.n)).filter fun a => s.cfg.feeds j a && decide (s.pbc.bypass[a]? ≠ some true)).length ∧
        ∀ a ∈ (List.range (2 * s.cfg.n)).filter (fun a => s.cfg.feeds j a && decide (s.pbc.bypass[a]? ≠ some true)),
          ∃ x, f.amps[a]? = some x ∧ x.state ≠ .clear ∧ (x.kind = .deficit ∨ x.kind = .pumpAttributed) := by
  simp only [State.whollyDeficient, members_eq, Bool.and_eq_true, decide_eq_true_eq, List.all_eq_true, Option.any_eq_true,
    AmpEntry.deficient_iff]

/-- R119, R120: the requests of an epoch, amplifiers before pumps. -/
theorem State.stage5_eq (s : State) (f : Flt) :
    s.stage5 f =
      ((List.range f.amps.length).flatMap fun a =>
        match f.amps[a]? with
        | some e =>
          if e.state = .faulty ∧ e.latch = false ∧ s.cfg.ampIsolation = true ∧
              (e.kind = .runaway ∨ e.kind = .deficit ∧ (s.cfg.ti : Int) ≤ s.deficit a)
          then [.amp a e.kind] else []
        | none => []) ++
      (List.range f.pumps.length).flatMap fun j =>
        match f.pumps[j]? with
        | some e =>
          if e.state = .faulty ∧ e.latch = false ∧ e.kind = .noResponse ∧ s.cfg.pumpIsolation = true then [.pump j] else []
        | none => [] := by
  unfold State.stage5
  congr 1
  · refine flatten_mapIdx fun a e he => ?_
    rw [he]
    refine if_congr ?_ rfl rfl
    simp only [AmpEntry.wantsIsolation, Bool.and_eq_true, Bool.or_eq_true, beq_iff_eq, bne_iff_ne, Bool.not_eq_true',
      decide_eq_true_eq]
    constructor
    · rintro ⟨⟨⟨⟨hs, hl⟩, -⟩, hc⟩, hk⟩
      exact ⟨hs, hl, hc, hk⟩
    · rintro ⟨hs, hl, hc, hk⟩
      exact ⟨⟨⟨⟨hs, hl⟩, by rcases hk with hk | ⟨hk, -⟩ <;> rw [hk] <;> decide⟩, hc⟩, hk⟩
  · refine flatten_mapIdx fun j e he => ?_
    rw [he]
    refine if_congr ?_ rfl rfl
    simp only [PumpEntry.wantsIsolation, Bool.and_eq_true, beq_iff_eq, Bool.not_eq_true', and_assoc]

end

/-- One epoch on `s`, with the requests and the round apart (R105, R114, R120). -/
theorem State.judge_eq (s : State) :
    s.judge = State.report
      (State.retabled (if newlyDeficient s.flt.pumps s.judged.pumps then s.requestRound else s) s.judged
        (s.pbc.isolations ++ s.stage5 s.judged)) := by
  unfold State.judge
  dsimp only
  refine congrArg State.report ?_
  split
  · exact s.requestRound_retabled s.judged _
  · rfl

/-- What one epoch leaves: the table, the requests, what the round asked for, and the marker. -/
theorem State.judge_spec (u : State) :
    u.judge.pru = (if newlyDeficient u.flt.pumps u.judged.pumps then u.requestRound else u).pru ∧
      u.judge.pbc =
        { u.pbc with
          isolations := u.pbc.isolations ++ u.stage5 u.judged
          driveRequests := (if newlyDeficient u.flt.pumps u.judged.pumps then u.requestRound else u).pbc.driveRequests } ∧
      u.judge = { u with flt := u.judge.flt, pru := u.judge.pru, ttx := u.judge.ttx, pbc := u.judge.pbc } ∧
      MarkerFollows u u.judge := by
  have hasked : (if newlyDeficient u.flt.pumps u.judged.pumps then u.requestRound else u) =
      { u with
        pru := (if newlyDeficient u.flt.pumps u.judged.pumps then u.requestRound else u).pru
        pbc := { u.pbc with
          driveRequests := (if newlyDeficient u.flt.pumps u.judged.pumps then u.requestRound else u).pbc.driveRequests } } := by
    split
    · exact u.requestRound_eq
    · rfl
  rw [State.judge_eq]
  generalize (if newlyDeficient u.flt.pumps u.judged.pumps then u.requestRound else u) = w at hasked
  rw [hasked]
  exact ⟨rfl, rfl, rfl, State.report_markerFollows rfl⟩

/-- Settles O32: the stages entry by entry, and the round and the requests after them. -/
theorem epochScoresAndRequests : Obligations.EpochScoresAndRequests := by
  intro d s hepoch c v level score since
  have hlevel (before : Suspicion) (old new : Nat) : level before old new = rescored c before old new :=
    (rescored_eq c before old new).symm
  have hscore (old weight : Nat) (e : Evidence) : score old weight e = scoreOf old weight e := by cases e <;> rfl
  let u := s.atEpoch d
  refine ⟨u.judge, exec_judgementEpoch hepoch, ?_⟩
  have hround : u.requestRound.pru = v.requestRound.pru ∧
      u.requestRound.pbc.driveRequests = v.requestRound.pbc.driveRequests := by
    have h : u.requestRound = v.requestRound.retabled u.flt s.pbc.isolations := v.requestRound_retabled ..
    have hpru := congrArg State.pru h
    have hdrive := congrArg (fun x => x.pbc.driveRequests) h
    exact ⟨hpru, hdrive⟩
  have hnewly := newlyDeficient_iff (before := u.flt.pumps) (after := u.judged.pumps)
  have htable : u.judge.flt = u.judged := u.judge_flt
  have hspans (a : Nat) (e : SpanEntry) (he : s.flt.spans[a]? = some e) :
      u.judge.flt.spans[a]? = some ((e.scored c s.cfl.clock (v.spanResult a)).settle c.n (u.judged.directionFaulty a)
        (partnerSpan s.records c.position a)) := by
    rw [htable, State.judged_spans_getElem?]
    exact congrArg (Option.map _) he
  have hamps (a : Nat) (e : AmpEntry) (he : s.flt.amps[a]? = some e) :
      u.judge.flt.amps[a]? =
        some ((e.scored c s.cfl.clock (v.ampResult a)).attribute (u.pumpSuspected u.judged a)) := by
    rw [htable, State.judged_amps_getElem?]
    exact congrArg (Option.map _) he
  have hpumps (j : Nat) (e : PumpEntry) (he : s.flt.pumps[j]? = some e) :
      u.judge.flt.pumps[j]? = some (e.attribute c s.cfl.clock (u.whollyDeficient u.judged j)) := by
    rw [htable, State.judged_pumps_getElem?]
    exact congrArg (Option.map _) he
  obtain ⟨hpru, hpbc, hframe, hmarker⟩ := u.judge_spec
  refine ⟨?frame, hmarker, ?epoch, ?refs, ?quiet, ?settle, ⟨fun h => ?asked, fun h => ?notAsked⟩, fun a e he hk => ?dark,
    fun a e he hk => ?span, fun a e he hl => ?latched, fun a e he hl => ?amp, fun j e he => ?pump, ?requests⟩
  case frame =>
    rw [hpbc] at hframe ⊢
    exact hframe
  case epoch => rw [htable]; rfl
  case refs => rw [htable]; rfl
  case quiet => rw [htable]; rfl
  case settle => rw [htable]; rfl
  case asked =>
    rw [htable] at h
    rw [hpru, hpbc, if_pos (hnewly.2 h)]
    exact hround
  case notAsked =>
    rw [htable] at h
    rw [hpru, hpbc, if_neg (mt hnewly.1 h)]
    exact ⟨rfl, rfl⟩
  case dark =>
    rw [hspans a e he, SpanEntry.scored, if_pos hk, SpanEntry.settle, if_neg (fun hn => hn.2 hk)]
    rfl
  case span =>
    refine ⟨_, hspans a e he, ?_⟩
    rw [SpanEntry.settle_eq, SpanEntry.scored, if_neg hk]
    exact ⟨(hscore ..).symm, (hlevel ..).symm, rfl, rfl⟩
  case latched =>
    rw [hamps a e he, AmpEntry.scored, if_pos hl, AmpEntry.attribute, if_neg (by simp [hl])]
  case amp =>
    have hsuspected := u.pumpSuspected_iff u.judged a
    rw [← htable] at hsuspected
    have hscored := AmpEntry.scored_of_unlatched hl c s.cfl.clock (v.ampResult a)
    have hkind := AmpEntry.attribute_kind (x := e.scored c s.cfl.clock (v.ampResult a)) (by rw [hscored]; exact hl)
      (u.pumpSuspected u.judge.flt a)
    refine ⟨_, hamps a e he, ?_⟩
    rw [AmpEntry.attribute_eq, ← htable, hkind, hscored]
    refine ⟨(hscore ..).symm, (hlevel ..).symm, rfl, hl, rfl, fun h1 h2 => ?_, fun h1 h2 => ?_, fun h1 h2 => ?_⟩
    · exact if_neg (not_or.2 ⟨h1, h2⟩)
    · exact (if_pos h1).trans (if_pos (hsuspected.2 h2))
    · exact (if_pos h1).trans (if_neg (mt hsuspected.1 h2))
  case pump =>
    intro members wholly
    have hwholly := u.whollyDeficient_iff u.judged j
    rw [← htable] at hwholly
    refine ⟨fun h => ?_, fun hl hw => ?_⟩
    · rw [hpumps j e he, PumpEntry.attribute]
      by_cases hl : e.latch = true
      · rw [if_pos hl]
      · rw [if_neg hl, if_neg fun hn => (h.resolve_left hl) (hwholly.1 (htable ▸ hn))]
    · refine ⟨_, hpumps j e he, ?_⟩
      rw [PumpEntry.attribute, if_neg (by simp [hl]), if_pos (htable ▸ hwholly.2 hw)]
      exact ⟨rfl, (hlevel ..).symm, rfl, rfl, rfl, hl, rfl⟩
  case requests =>
    rw [hpbc, htable]
    refine congrArg (s.pbc.isolations ++ ·) (u.stage5_eq u.judged) |>.trans ?_
    rw [List.append_assoc]
    rfl

end Sys2Proof.Machine
end

section
/-! What happens at the steps of a pump and in the course of a probe: the step timer, the answer to a request for PROBE drive,
the window and the restore (O36 to O39). -/

namespace Sys2Proof.Machine

/-! ### Steps (O36) -/

theorem stepToward_eq (size applied target : Nat) :
    stepToward size applied target =
      if applied ≤ target then min target (applied + size) else max target (applied - size) := by
  unfold stepToward
  split <;> omega

theorem getElem?_of_bind_some {α β : Type} {l : List α} {f : α → Option β} {j : Nat} {x : α} {d : β} (hx : l[j]? = some x)
    (hd : f x = some d) : l[j]?.bind f = some d := by
  rw [hx]
  exact hd

/-- Settles O36: the model's step is the least of the step size and of what remains. -/
theorem stepMovesTowardTheTarget : Obligations.StepMovesTowardTheTarget := by
  intro j d x s hx hd k moved
  have hmoved : stepToward k.stepSize x.applied x.target = moved := stepToward_eq ..
  have hstep : Pump.stepOnce k d x =
      { x with applied := moved, step := if moved = x.target then none else some (d + 10 * k.interval) } := by
    rw [Pump.stepOnce, hmoved]
    rfl
  have hdue : s.pbc.pumps[j]?.bind Pump.step = some d := getElem?_of_bind_some hx hd
  simp only [exec, execStepTimerExpiry, hdue]
  rw [List.modify_eq_set_getElem?, State.reach_pbc, hx]
  rw [← hstep]
  rfl

/-! ### Answers to a request for PROBE drive (O37) -/

/-- R139: a pump is granted PROBE drive when it is ACTIVE, not BUSY, and no pump is in PROBE. -/
def GrantsDrive (s : State) (j : Nat) : Prop :=
  (∃ x, s.pbc.pumps[j]? = some x ∧ x.state = .active ∧ x.applied = x.target) ∧ ∀ y ∈ s.pbc.pumps, y.state ≠ .probe

theorem Pbc.probed_isNone_iff (p : Pbc) : p.probed.isNone = true ↔ ∀ y ∈ p.pumps, y.state ≠ .probe := by
  rw [Option.isNone_iff_eq_none, Pbc.probed, List.findIdx?_eq_none_iff]
  exact forall₂_congr fun y _ => by simp

theorem State.grantsProbe_iff (s : State) (j : Nat) : s.grantsProbe j = true ↔ GrantsDrive s j := by
  rw [State.grantsProbe, Bool.and_eq_true, Bool.and_eq_true, Pbc.probed_isNone_iff, GrantsDrive]
  refine and_congr_left fun _ => ?_
  cases hx : s.pbc.pumps[j]? with
  | none => simp [Pbc.isIn, hx]
  | some x =>
    rw [Pbc.isIn_of_getElem? hx, Pbc.isBusy, hx]
    cases hst : x.state <;> simp [Pump.busy, hst]

theorem Ttx.remark_remark (t : Ttx) (m : Marker) : (t.remark m).remark m = t.remark m := by
  cases t <;> rfl

theorem State.report_report (s : State) : s.report.report = s.report := by
  have h : s.report.report = { s.report with ttx := s.report.ttx.remark s.markerNow } := rfl
  rw [h, State.report_ttx, Ttx.remark_remark]
  rfl

/-- The PRU in PROBING, before the collision test (R154). -/
def State.probing (s : State) (pr : Probe) : State :=
  { s with
    pru := { s.pru with
             state := .probing pr (s.now + 1000 * s.cfg.window)
             rotation := if pr.source = ProbeSource.scheduled then (pr.pump + 1) % s.cfg.m else s.pru.rotation } }

theorem State.enterProbing_eq (s : State) (pr : Probe) :
    s.enterProbing pr = (((s.probing pr).collisionTest (s.cfg.position - 1)).collisionTest (s.cfg.position + 1)).report := rfl

/-- A set flag of the upper neighbour never aborts the own probe (R157). -/
theorem State.collisionTest_above {s : State} {q : Nat} (h : s.cfg.position ≤ q) : s.collisionTest q = s :=
  State.collisionTest_of_not (.inr fun hc => absurd hc.1 (by omega))

theorem State.enterProbing_of_collision {s : State} {pr : Probe} (hpos : 0 < s.cfg.position)
    (hflag : (probeFlag s.records (s.cfg.position - 1)).isSome = true) :
    s.enterProbing pr = (((s.probing pr).abortProbe pr).askRestore ⟨pr.pump, none⟩).report := by
  have hlt : s.cfg.position - 1 < (s.probing pr).cfg.position := Nat.sub_one_lt (Nat.pos_iff_ne_zero.1 hpos)
  have h : (s.probing pr).collisionTest (s.cfg.position - 1) =
      (((s.probing pr).abortProbe pr).askRestore ⟨pr.pump, none⟩).report := State.collisionTest_of_collision rfl hflag hlt
  have habove : (((s.probing pr).abortProbe pr).askRestore ⟨pr.pump, none⟩).report.collisionTest (s.cfg.position + 1) =
      (((s.probing pr).abortProbe pr).askRestore ⟨pr.pump, none⟩).report :=
    State.collisionTest_above (Nat.le_succ s.cfg.position)
  rw [State.enterProbing_eq, h, habove, State.report_report]

theorem State.enterProbing_of_not {s : State} {pr : Probe}
    (h : ¬(0 < s.cfg.position ∧ (probeFlag s.records (s.cfg.position - 1)).isSome = true)) :
    s.enterProbing pr = (s.probing pr).report := by
  have hbelow : (s.probing pr).collisionTest (s.cfg.position - 1) = s.probing pr := by
    refine State.collisionTest_of_not (.inr fun ⟨hlt, hflag⟩ => h ⟨?_, hflag⟩)
    have hlt' : s.cfg.position - 1 < s.cfg.position := hlt
    omega
  have habove : (s.probing pr).collisionTest (s.cfg.position + 1) = s.probing pr :=
    State.collisionTest_above (Nat.le_succ s.cfg.position)
  rw [State.enterProbing_eq, hbelow, habove]

/-- A collision moves the marker, the PRU and the settle times, and asks for the restore (R157). -/
theorem State.collided_eq (u : State) (pr : Probe) :
    ((u.abortProbe pr).askRestore ⟨pr.pump, none⟩).report =
      { u with
        ttx := ((u.abortProbe pr).askRestore ⟨pr.pump, none⟩).report.ttx
        pru := ((u.abortProbe pr).askRestore ⟨pr.pump, none⟩).report.pru
        flt := { u.flt with settle := ((u.abortProbe pr).askRestore ⟨pr.pump, none⟩).report.flt.settle }
        pbc := { u.pbc with restores := u.pbc.restores ++ [⟨pr.pump, none⟩] } } := rfl

/-- The state in which the PBC has taken a request for PROBE drive, the pumps being `pumps` afterwards. -/
def State.answering (s : State) (rest : List DriveRequest) (pumps : List Pump) : State :=
  { s with pbc := { s.pbc with driveRequests := rest, pumps := pumps } }

/-- R139: the pumps after a grant on pump `j`. -/
def State.loweredPumps (s : State) (j : Nat) : List Pump := s.pbc.pumps.modify j (Pump.lower (s.cfg.pump j))

theorem State.loweredPumps_eq {s : State} {j : Nat} {x : Pump} (h : s.pbc.pumps[j]? = some x) :
    s.loweredPumps j =
      s.pbc.pumps.set j
        { x with state := .probe, preProbe := some x.applied,
                 applied := max (s.cfg.pump j).floor (x.applied - (s.cfg.pump j).depth), step := none } := by
  rw [State.loweredPumps, List.modify_eq_set_getElem?, h]
  rfl

theorem exec_probeDriveRequest_granted {s : State} {r : DriveRequest} {rest : List DriveRequest}
    (h : s.pbc.driveRequests = r :: rest) (hg : GrantsDrive s r.pump) :
    exec .probeDriveRequest s = .next ((s.answering rest (s.loweredPumps r.pump)).takeAnswer r true) := by
  simp only [exec, execProbeDriveRequest, h]
  rw [if_pos ((s.grantsProbe_iff r.pump).2 hg)]
  rfl

theorem exec_probeDriveRequest_refused {s : State} {r : DriveRequest} {rest : List DriveRequest}
    (h : s.pbc.driveRequests = r :: rest) (hg : ¬ GrantsDrive s r.pump) :
    exec .probeDriveRequest s = .next ((s.answering rest s.pbc.pumps).takeAnswer r false) := by
  simp only [exec, execProbeDriveRequest, h]
  rw [if_neg fun hn => hg ((s.grantsProbe_iff r.pump).1 hn)]
  rfl

/-- In STARTING the PRU acts on the answer (R154). -/
theorem State.takeAnswer_starting {s : State} {r : DriveRequest} {pr : Probe} (h : s.pru.state = .starting pr)
    (hr : r.stale = false) (granted : Bool) :
    s.takeAnswer r granted = if granted then s.enterProbing pr else s.abortProbe pr := by
  simp only [State.takeAnswer, h, hr]

/-- An answer that the PRU does not wait for is taken as in IDLE (R154, log entry 7). -/
theorem State.takeAnswer_idle {s : State} {r : DriveRequest} (h : s.pru.state = .idle ∨ r.stale = true) (granted : Bool) :
    s.takeAnswer r granted =
      if granted then State.askRestore { s with flt := s.flt.startSettle s.cfg s.now r.pump } ⟨r.pump, none⟩ else s := by
  rcases h with h | h
  · simp only [State.takeAnswer, h]
  · simp only [State.takeAnswer, h]
    cases s.pru.state <;> rfl

/-- Settles O37: the grant of the model is R139's, and each answer is taken in STARTING or as in IDLE. -/
theorem probeDriveIsAnswered : Obligations.ProbeDriveIsAnswered := by
  intro r rest s hreq c grants lowered collides rotation
  let v := s.answering rest (s.loweredPumps r.pump)
  have hlowered (u : State) (hu : u.pbc.pumps = s.loweredPumps r.pump) : lowered u :=
    fun x hx => hu.trans (State.loweredPumps_eq hx)
  refine ⟨fun pr hst hr hg hc => ?entered, fun pr hst hr hg hc => ?collided, fun pr hst hr hg => ?refused,
    fun hidle hg => ?late, fun hidle hg => ?lateRefused⟩
  case entered =>
    have htaken : v.takeAnswer r true = (v.probing pr).report := by
      rw [State.takeAnswer_starting (s := v) hst hr, if_pos rfl]
      exact State.enterProbing_of_not hc
    exact ⟨(v.probing pr).report, (exec_probeDriveRequest_granted hreq hg).trans (congrArg _ htaken), hlowered _ rfl,
      State.report_markerFollows rfl, rfl⟩
  case collided =>
    obtain ⟨hpos, hflag⟩ := hc
    have htaken : v.takeAnswer r true = (((v.probing pr).abortProbe pr).askRestore ⟨pr.pump, none⟩).report := by
      rw [State.takeAnswer_starting (s := v) hst hr, if_pos rfl]
      exact State.enterProbing_of_collision hpos hflag
    have haborted : ProbeAborted (v.probing pr) (((v.probing pr).abortProbe pr).askRestore ⟨pr.pump, none⟩).report pr :=
      ProbeAborted.of_abortProbe rfl rfl rfl
    exact ⟨_, (exec_probeDriveRequest_granted hreq hg).trans (congrArg _ htaken), hlowered _ rfl,
      State.report_markerFollows rfl, haborted, (v.probing pr).collided_eq pr⟩
  case refused =>
    let w := s.answering rest s.pbc.pumps
    have htaken : w.takeAnswer r false = w.abortProbe pr := State.takeAnswer_starting (s := w) hst hr false
    have haborted : ProbeAborted s (w.abortProbe pr) pr :=
      ProbeAborted.of_same (u := w) rfl rfl rfl (ProbeAborted.of_abortProbe rfl rfl rfl)
    exact ⟨w.abortProbe pr, (exec_probeDriveRequest_refused hreq hg).trans (congrArg _ htaken), haborted, rfl⟩
  case late =>
    have htaken := State.takeAnswer_idle (s := v) hidle true
    exact ⟨_, (exec_probeDriveRequest_granted hreq hg).trans (congrArg _ htaken), hlowered _ rfl,
      SettleStarted.of_startSettle rfl, rfl⟩
  case lateRefused =>
    exact (exec_probeDriveRequest_refused hreq hg).trans
      (congrArg _ (State.takeAnswer_idle (s := s.answering rest s.pbc.pumps) hidle false))

/-! ### The probe window (O38) -/

/-- R155: some member still in-line has fallen by Rmin or more. -/
theorem State.probeGood_iff (s : State) (pr : Probe) :
    s.probeGood pr = true ↔
      ∃ m ∈ pr.members, s.pbc.bypass[m.1]? ≠ some true ∧ (s.cfg.rmin : Int) ≤ m.2 - s.lmu.sOut m.1 := by
  have hmem (r : Int) :
      r ∈ (pr.members.filter fun x => !s.pbc.bypassed x.1).map (fun x => x.2 - s.lmu.sOut x.1) ↔
        ∃ m ∈ pr.members, s.pbc.bypass[m.1]? ≠ some true ∧ m.2 - s.lmu.sOut m.1 = r := by
    simp only [List.mem_map, List.mem_filter, Bool.not_eq_true', Bool.eq_false_iff, ne_eq, Pbc.bypassed_iff, and_assoc]
  unfold State.probeGood State.pumpResponse
  cases hmax : ((pr.members.filter fun x => !s.pbc.bypassed x.1).map fun x => x.2 - s.lmu.sOut x.1).max? with
  | none =>
    rw [List.max?_eq_none_iff] at hmax
    rw [hmax] at hmem
    exact iff_of_false Bool.false_ne_true fun ⟨m, hm, hb, _⟩ => List.not_mem_nil ((hmem _).2 ⟨m, hm, hb, rfl⟩)
  | some r =>
    obtain ⟨hr, hle⟩ := List.max?_eq_some_iff.1 hmax
    rw [decide_eq_true_eq]
    constructor
    · intro h
      obtain ⟨m, hm, hb, heq⟩ := (hmem r).1 hr
      exact ⟨m, hm, hb, heq ▸ h⟩
    · rintro ⟨m, hm, hb, h⟩
      exact h.trans (hle _ ((hmem _).2 ⟨m, hm, hb, rfl⟩))

theorem exec_probeWindowExpiry {s : State} {pr : Probe} {d : Moment} (h : s.pru.state = .probing pr d) :
    let u := (s.reach d).finishProbe pr
    let f := u.flt.probeResult s.cfg s.cfl.clock pr.pump (s.probeGood pr)
    exec .probeWindowExpiry s =
      .next (State.askRestore { u with flt := f } ⟨pr.pump, u.flt.resultOf f pr.pump⟩).report := by
  simp only [exec, execProbeWindowExpiry, h]
  rfl

theorem Flt.resultOf_eq_some {f g : Flt} {j : Nat} {e e' : PumpEntry} (he : f.pumps[j]? = some e) (he' : g.pumps[j]? = some e') :
    f.resultOf g j = some ⟨e, e'⟩ := by
  rw [Flt.resultOf, he, he']
  rfl

/-- Settles O38: the model's largest response reaches Rmin exactly when one of them does. -/
theorem probeWindowGivesTheResult : Obligations.ProbeWindowGivesTheResult := by
  intro pr d s hst c good level
  let u := (s.reach d).finishProbe pr
  let f := u.flt.probeResult s.cfg s.cfl.clock pr.pump (s.probeGood pr)
  have hlevel (before : Suspicion) (old new : Nat) : level before old new = rescored c before old new :=
    (rescored_eq c before old new).symm
  have hgood : s.probeGood pr = true ↔ good := s.probeGood_iff pr
  have hpumps (j : Nat) : f.pumps[j]? =
      if j = pr.pump then s.flt.pumps[j]?.map (PumpEntry.probeResult c s.cfl.clock (s.probeGood pr)) else s.flt.pumps[j]? := by
    refine (getElem?_modify_eq_ite ..).trans ?_
    by_cases hj : j = pr.pump
    · rw [if_pos hj, if_pos hj.symm]
      rfl
    · rw [if_neg hj, if_neg (Ne.symm hj)]
      rfl
  refine ⟨_, _, exec_probeWindowExpiry hst, ?ended, State.report_markerFollows rfl, rfl,
    fun e e' he he' => Flt.resultOf_eq_some he he', fun j e he => ⟨fun hj => ?kept, fun hj hl => ?scored⟩⟩
  case ended =>
    have h : ProbeEnded (s.reach d)
        (State.askRestore { u with flt := f } ⟨pr.pump, u.flt.resultOf f pr.pump⟩).report pr :=
      ProbeEnded.of_finishProbe rfl rfl rfl
    exact h
  case kept =>
    refine (hpumps j).trans ?_
    split
    · next hpump =>
      have hl : e.latch = true := hj.resolve_left fun hne => hne hpump
      rw [he]
      exact congrArg some (if_pos hl)
    · exact he
  case scored =>
    let e' := e.probeResult c s.cfl.clock (s.probeGood pr)
    have he' : f.pumps[j]? = some e' := by
      rw [hpumps, if_pos hj, he]
      rfl
    have heq : e' = if s.probeGood pr then { e.rescore c s.cfl.clock (e.score - c.wp) .none with probed := true }
        else { e.rescore c s.cfl.clock (raised e.score c.wp) .noResponse with probed := true } := by
      refine if_neg ?_
      rw [hl]
      exact Bool.false_ne_true
    refine ⟨e', he', ?_⟩
    rw [hlevel]
    by_cases hg : good
    · rw [heq, if_pos (hgood.2 hg)]
      refine ⟨rfl, hl, rfl, fun _ => rfl, fun h => absurd hg h, rfl, rfl, fun _ => ?_, fun h => absurd hg h⟩
      exact ite_self _
    · rw [heq, if_neg fun h => hg (hgood.1 h)]
      refine ⟨rfl, hl, rfl, fun h => absurd h hg, fun _ => rfl, rfl, rfl, fun h => absurd h hg, fun _ hk => ?_⟩
      exact if_neg fun ⟨hclear, hbefore⟩ => hk.elim (fun h => h hclear) hbefore

/-! ### The restore (O39) -/

/-- R140: the drive of a pump in PROBE, its step timer stopped, restored. -/
theorem Pump.restore_of_probe {k : PumpConfig} {now : Moment} {x : Pump} {d : Nat} (hst : x.state = .probe)
    (hpre : x.preProbe = some d) (hstep : x.step = none) :
    Pump.restore k now x =
      { x with
        state := .active
        applied := if k.interval = 0 then x.target else d
        preProbe := none
        step := if k.interval = 0 ∨ d = x.target then none else some (now + 10 * k.interval) } := by
  rw [Pump.restore, if_pos hst, hpre]
  by_cases hd : d = x.target
  · by_cases hi : k.interval = 0 <;> simp [Pump.ramp, Pump.busy, hd, hi]
  · by_cases hi : k.interval = 0 <;> simp [Pump.ramp, Pump.busy, hd, hi, hstep, Config.stepUnit]

/-- Settles O39: the pump in PROBE is restored, and every other one passed over. -/
theorem restoreReturnsTheDrive : Obligations.RestoreReturnsTheDrive := by
  intro r rest x s hreq hx j interval
  have hexec : exec .restoreRequest s = .next
      { s with pbc := { s.pbc with restores := rest,
                                   pumps := s.pbc.pumps.set j (Pump.restore (s.cfg.pump j) s.now x) } } := by
    simp only [exec, execRestoreRequest, hreq]
    rw [List.modify_eq_set_getElem?, hx]
    rfl
  refine ⟨fun d hst hpre hstep => ?_, fun hst => ?_⟩
  · rw [hexec, Pump.restore_of_probe hst hpre hstep]
  · have hkept : Pump.restore (s.cfg.pump j) s.now x = x := if_neg hst
    have hset : s.pbc.pumps.set j x = s.pbc.pumps := by
      refine List.ext_getElem? fun i => ?_
      rw [List.getElem?_set]
      grind
    rw [hexec, hkept, hset]

end Sys2Proof.Machine
end

section
/-! The schedule of the probes: start attempts, the rotation and the expedited round (O40, O41). -/

namespace Sys2Proof.Machine

/-! ### Start attempts (R151) -/

theorem State.eligible_iff (s : State) (j : Nat) : s.eligible j = true ↔ Eligible s j := by
  rw [State.eligible, Bool.and_eq_true, List.any_eq_true, Eligible]
  refine and_congr ?active (exists_congr fun a => ?inLine)
  case active =>
    cases hx : s.pbc.pumps[j]? with
    | none => simp [Pbc.isIn, hx]
    | some x =>
      rw [Pbc.isIn_of_getElem? hx]
      cases hst : x.state <;> simp [hst]
  case inLine => rw [Commissioning.mem_group, Bool.not_eq_true', Bool.eq_false_iff, ne_eq, Pbc.bypassed_iff]

theorem Pru.isIdle_iff (p : Pru) : p.isIdle = true ↔ p.state = .idle := by
  unfold Pru.isIdle
  cases p.state <;> simp

theorem State.neighbourProbing_eq_false_iff (s : State) (q : Nat) :
    s.neighbourProbing q = false ↔ probeFlag s.records q = none := by
  rw [State.neighbourProbing, Option.isSome_eq_false_iff, Option.isNone_iff_eq_none]

/-- An ACTIVE pump is BUSY exactly while its applied drive is not its target. -/
theorem Pbc.isBusy_eq_false_iff {p : Pbc} {j : Nat} {x : Pump} (hx : p.pumps[j]? = some x) (hst : x.state = .active) :
    p.isBusy j = false ↔ x.applied = x.target := by
  rw [Pbc.isBusy, hx]
  simp [Pump.busy, hst]

/-- R151: when a start attempt on an eligible pump succeeds. -/
theorem State.mayStart_iff {s : State} {j : Nat} (he : Eligible s j) : s.mayStart j = true ↔ Startable s j := by
  obtain ⟨⟨x, hx, hst⟩, -⟩ := he
  have hsettled : x.applied = x.target ↔ ∀ y, s.pbc.pumps[j]? = some y → y.applied = y.target := by
    rw [hx]
    simp
  simp only [State.mayStart, Bool.and_eq_true, Bool.not_eq_true', Pbc.isBusy_eq_false_iff hx hst, Pru.isIdle_iff,
    State.neighbourProbing_eq_false_iff, hsettled, Startable, and_assoc]

/-- R151: what a start attempt that succeeds does. -/
theorem State.startProbe_eq (s : State) (j : Nat) (source : ProbeSource) : s.startProbe j source = started s j source := by
  rw [State.startProbe, State.membersOf, members_eq]
  rfl

/-! ### The rotation (R152, O40) -/

/-- R152: the scheduled start is no longer pending. -/
def State.noStart (s : State) : State := { s with pru := { s.pru with scheduled := false } }

theorem started_noStart (s : State) (j : Nat) (source : ProbeSource) :
    { started s j source with pru := { (started s j source).pru with scheduled := false } } = started s.noStart j source := rfl

theorem State.scheduledAttempt_of_none {s : State} (h : ∀ i < s.cfg.m, ¬ Eligible s ((s.pru.rotation + i) % s.cfg.m)) :
    s.scheduledAttempt = s.noStart := by
  have hnone : s.rotationOrder.find? s.eligible = none := by
    rw [List.find?_eq_none]
    intro j hj
    obtain ⟨i, hi, rfl⟩ := List.mem_map.1 hj
    rw [State.eligible_iff]
    exact h i (List.mem_range.1 hi)
  rw [State.scheduledAttempt, hnone]
  rfl

/-- R152: the attempt takes the first eligible pump from the rotation pointer on. -/
theorem State.scheduledAttempt_of_first {s : State} {i : Nat} (hi : i < s.cfg.m)
    (he : Eligible s ((s.pru.rotation + i) % s.cfg.m))
    (hfirst : ∀ l < i, ¬ Eligible s ((s.pru.rotation + l) % s.cfg.m)) :
    s.scheduledAttempt =
      if s.mayStart ((s.pru.rotation + i) % s.cfg.m) then started s.noStart ((s.pru.rotation + i) % s.cfg.m) .scheduled
      else s := by
  have hrange : (List.range s.cfg.m).find? (fun l => s.eligible ((s.pru.rotation + l) % s.cfg.m)) = some i := by
    rw [List.find?_range_eq_some]
    refine ⟨(s.eligible_iff _).2 he, List.mem_range.2 hi, fun l hl => ?_⟩
    rw [Bool.not_eq_true', Bool.eq_false_iff, ne_eq, State.eligible_iff]
    exact hfirst l hl
  have hfind : s.rotationOrder.find? s.eligible = some ((s.pru.rotation + i) % s.cfg.m) := by
    rw [State.rotationOrder, List.find?_map]
    exact congrArg _ hrange
  rw [State.scheduledAttempt, hfind]
  dsimp only
  rw [State.startProbe_eq, started_noStart]

/-- The attempt made at once at an interval's expiry, or at an epoch, with the start pending (R152). -/
theorem State.scheduledAttempt_inTurn {s u : State}
    (hu : u = { s with now := u.now, pru := { s.pru with interval := u.pru.interval, scheduled := u.pru.scheduled } }) :
    let inTurn (i : Nat) : Nat := (s.pru.rotation + i) % s.cfg.m
    let t := State.scheduledAttempt { u with pru := { u.pru with scheduled := true } }
    ((∀ i < s.cfg.m, ¬ Eligible s (inTurn i)) → t = u.noStart) ∧
      ∀ i < s.cfg.m, Eligible s (inTurn i) → (∀ l < i, ¬ Eligible s (inTurn l)) →
        (Startable s (inTurn i) → t = started u.noStart (inTurn i) .scheduled) ∧
        (¬ Startable s (inTurn i) → t = { u with pru := { u.pru with scheduled := true } }) := by
  intro inTurn t
  let v : State := { u with pru := { u.pru with scheduled := true } }
  have hcfg : v.cfg = s.cfg := by rw [show v.cfg = u.cfg from rfl, hu]; rfl
  have hrotation : v.pru.rotation = s.pru.rotation := by rw [show v.pru.rotation = u.pru.rotation from rfl, hu]
  have heligible (j : Nat) : Eligible v j ↔ Eligible s j := by
    rw [show Eligible v j ↔ Eligible u j from Iff.rfl, hu]
    rfl
  have hstartable (j : Nat) : Startable v j ↔ Startable s j := by
    rw [show Startable v j ↔ Startable u j from Iff.rfl, hu]
    rfl
  have hturn (i : Nat) : (v.pru.rotation + i) % v.cfg.m = inTurn i := by rw [hcfg, hrotation]
  constructor
  · intro h
    refine v.scheduledAttempt_of_none fun i hi => ?_
    rw [hturn, heligible]
    exact h i (hcfg ▸ hi)
  · intro i hi he hfirst
    have hev : Eligible v ((v.pru.rotation + i) % v.cfg.m) := by
      rw [hturn, heligible]
      exact he
    have ht : t = if v.mayStart (inTurn i) then started v.noStart (inTurn i) .scheduled else v := by
      rw [← hturn]
      refine State.scheduledAttempt_of_first (hcfg.symm ▸ hi) hev fun l hl => ?_
      rw [hturn, heligible]
      exact hfirst l hl
    rw [hturn] at hev
    have hmay : v.mayStart (inTurn i) = true ↔ Startable s (inTurn i) := (State.mayStart_iff hev).trans (hstartable _)
    exact ⟨fun h => ht.trans (if_pos (hmay.2 h)), fun h => ht.trans (if_neg fun hn => h (hmay.1 hn))⟩

theorem exec_probeIntervalExpiry {s : State} {d : Moment} (h : s.pru.interval = some d) :
    let u : State := { s with now := max s.now d, pru := { s.pru with interval := some (d + 1000 * s.cfg.interval) } }
    exec .probeIntervalExpiry s = .next
      (if s.pru.round.isSome = true ∨ s.pru.scheduled = true then u
       else State.scheduledAttempt { u with pru := { u.pru with scheduled := true } }) := by
  simp only [exec, execProbeIntervalExpiry, h]
  by_cases hb : (s.pru.round.isSome || s.pru.scheduled) = true
  · rw [if_pos hb, if_pos (Bool.or_eq_true .. ▸ hb)]
    rfl
  · rw [if_neg hb, if_neg (Bool.or_eq_true .. ▸ hb)]
    rfl

/-- Settles O40: the order of the rotation is R152's, and its first eligible pump is tried. -/
theorem scheduledStartsAreMadeOrDeferred : Obligations.ScheduledStartsAreMadeOrDeferred := by
  intro s m inTurn attempt
  refine ⟨fun d hd => ⟨_, exec_probeIntervalExpiry hd, fun h => if_pos h, fun hround hscheduled => ?_⟩, fun h => ?_⟩
  · have hfree : ¬(s.pru.round.isSome = true ∨ s.pru.scheduled = true) := by simp [hround, hscheduled]
    rw [if_neg hfree]
    exact State.scheduledAttempt_inTurn rfl
  · have hpending : { s with pru := { s.pru with scheduled := true } } = s := by rw [← h]
    refine ⟨State.scheduledAttempt { s with pru := { s.pru with scheduled := true } }, ?_, State.scheduledAttempt_inTurn rfl⟩
    rw [hpending]
    exact if_pos h

/-! ### The expedited round (R153, O41) -/

/-- R153: a turn skips the pumps that are not eligible. -/
theorem State.takeTurn_skipped {s : State} {skipped left : List Nat} (h : ∀ i ∈ skipped, ¬ Eligible s i) :
    s.takeTurn (skipped ++ left) = s.takeTurn left := by
  induction skipped with
  | nil => rfl
  | cons i skipped ih =>
    obtain ⟨hi, hrest⟩ := List.forall_mem_cons.1 h
    rw [← ih hrest, List.cons_append, State.takeTurn]
    exact if_neg fun he => hi ((s.eligible_iff i).1 he)

/-- R153: a turn over the pumps left. -/
theorem State.takeTurn_spec (s : State) (left : List Nat) :
    ((∀ j ∈ left, ¬ Eligible s j) → s.takeTurn left = { s with pru := { s.pru with round := none } }) ∧
      ∀ skipped j rest, left = skipped ++ j :: rest → (∀ i ∈ skipped, ¬ Eligible s i) → Eligible s j →
        (Startable s j → s.takeTurn left = started { s with pru := { s.pru with round := some ⟨rest, .none⟩ } } j .round) ∧
        (¬ Startable s j → s.takeTurn left = { s with pru := { s.pru with round := some ⟨j :: rest, .waitingEpoch⟩ } }) := by
  constructor
  · intro h
    rw [← List.append_nil left, State.takeTurn_skipped h]
    rfl
  · rintro skipped j rest rfl hskipped he
    rw [State.takeTurn_skipped hskipped, State.takeTurn, if_pos ((s.eligible_iff j).2 he)]
    constructor
    · intro h
      rw [if_pos ((State.mayStart_iff he).2 h), State.startProbe_eq]
      rfl
    · intro h
      exact if_neg fun hn => h ((State.mayStart_iff he).1 hn)

/-- Settles O41: each of the three events takes the model's turn, which is R153's. -/
theorem roundTakesItsTurns : Obligations.RoundTakesItsTurns := by
  intro s turn
  refine ⟨fun r hr hturn => ⟨_, ?epoch, State.takeTurn_spec ..⟩, fun d r hd hr => ⟨_, ?gap, State.takeTurn_spec ..⟩,
    fun hr hst => ?idle, fun hr hst => ?busy, fun hr => ?absorbed⟩
  case epoch => simp only [exec, execRoundEpochRetry, hr, hturn, if_true]
  case gap =>
    simp only [exec, execGapTimerExpiry]
    split
    · next d' r' hd' hr' =>
      cases hd.symm.trans hd'
      cases hr.symm.trans hr'
      rfl
    · next hnone => exact absurd hr (hnone d r hd)
  case idle =>
    have h : s.requestRound = State.takeTurn { s with pru := { s.pru with scheduled := false } } (List.range s.cfg.m) := by
      rw [State.requestRound, hr]
      exact if_pos (s.pru.isIdle_iff.2 hst)
    rw [h]
    exact State.takeTurn_spec ..
  case busy =>
    rw [State.requestRound, hr]
    exact if_neg fun h => hst (s.pru.isIdle_iff.1 h)
  case absorbed =>
    obtain ⟨r, hr⟩ := Option.isSome_iff_exists.1 hr
    rw [State.requestRound, hr]

end Sys2Proof.Machine
end

section
/-! The Record Queue and the status of the Terminal Port: offers, severities, READ_STATUS (O42, O46). -/

namespace Sys2Proof.Machine

/-! ### Offers (O46) -/

/-- The causes that a store raises (R185). -/
theorem storeCauses_eq (c : Commissioning) (severity : Severity) (count : Nat) :
    storeCauses c severity count =
      { recordTimer := decide (c.tq = 0), absoluteTimer := false, critical := decide (severity = .critical),
        lowSpace := decide (c.lowSpace ≠ 0 ∧ 128 - count ≤ c.lowSpace), overrun := false } := by
  have hlow : (c.lowSpace != 0 && decide (Config.queueRoom - count ≤ c.lowSpace)) =
      decide (c.lowSpace ≠ 0 ∧ 128 - count ≤ c.lowSpace) := by
    rw [Bool.eq_iff_iff]
    simp [Config.queueRoom]
  have htimer : (c.tq == 0) = decide (c.tq = 0) := by rw [Bool.eq_iff_iff]; simp
  have hcritical : (severity == .critical) = decide (severity = .critical) := by cases severity <;> rfl
  rw [storeCauses, hlow, htimer, hcritical]
  rfl

/-- R183: room for 128 records. -/
theorem Tpt.offer_of_room {t : Tpt} (h : t.queue.length < 128) (c : Commissioning) (now : Moment) (clock origin : Nat)
    (change : Change) :
    t.offer c now clock origin change =
      Tpt.attend c now (storeCauses c change.severity (t.queue.length + 1))
        { t with queue := t.queue ++ [⟨origin, change, change.severity, clock, t.gap⟩], gap := 0 } := if_pos h

theorem Tpt.offer_of_full {t : Tpt} (h : 128 ≤ t.queue.length) (c : Commissioning) (now : Moment) (clock origin : Nat)
    (change : Change) :
    t.offer c now clock origin change =
      Tpt.raise { Causes.empty with overrun := true }
        { t with overrun := min 255 (t.overrun + 1), gap := min 255 (t.gap + 1) } :=
  if_neg (Nat.not_lt.2 h)

/-- What a store does to the causes and timers (R185): it raises causes, or finds one pending, or starts the timers. -/
theorem Tpt.attend_eq (c : Commissioning) (now : Moment) (immediate critical low : Bool) (t : Tpt) :
    t.attend c now ⟨immediate, false, critical, low, false⟩ =
      { t with
        causes := { t.causes with
                    recordTimer := t.causes.recordTimer || immediate
                    critical := t.causes.critical || critical
                    lowSpace := t.causes.lowSpace || low }
        recordTimer :=
          if critical || low || immediate then none
          else if t.causes.any then t.recordTimer else some (now + 100 * c.tq)
        absoluteTimer :=
          if critical || low || immediate then none
          else if t.causes.any then t.absoluteTimer else some (t.absoluteTimer.getD (now + 400 * c.tq)) } := by
  have hany : Causes.any ⟨immediate, false, critical, low, false⟩ = (critical || low || immediate) := by
    cases immediate <;> cases critical <;> cases low <;> rfl
  unfold Tpt.attend
  rw [hany]
  cases hraised : critical || low || immediate with
  | true => simp only [Tpt.raise, Causes.union, Bool.or_false, if_true]
  | false =>
    obtain ⟨⟨rfl, rfl⟩, rfl⟩ : (critical = false ∧ low = false) ∧ immediate = false := by simpa using hraised
    have hunit : 4 * (Config.recordUnit * c.tq) = 400 * c.tq := by simp only [Config.recordUnit]; omega
    simp only [Bool.or_false, Bool.false_eq_true, if_false, hunit]
    cases t.causes.any <;> rfl

/-- Settles O46: the severities by cases of the new value, and the store and the drop of the model. -/
theorem offersAreStoredOrDropped : Obligations.OffersAreStoredOrDropped := by
  refine ⟨fun _ new => ?_, fun _ _ new => ?_, fun _ _ new => ?_, fun _ _ new => ?_, fun _ _ new => ?_, fun _ _ new => ?_,
    fun _ _ => rfl, ?offers⟩
  iterate 6 · cases new <;> rfl
  case offers =>
    intro c now clock origin change t causes critical low immediate pending
    refine ⟨fun hroom => ?stored, fun hfull => ?dropped⟩
    case stored =>
      rw [Tpt.offer_of_room hroom, storeCauses_eq, Tpt.attend_eq]
      rfl
    case dropped =>
      rw [Tpt.offer_of_full hfull]
      simp only [Tpt.raise, Causes.union, Causes.empty, Bool.or_false, Bool.or_true]
      rfl

/-! ### READ_STATUS (O42) -/

theorem State.portActive_of {s : State} (hheld : s.cfl.resetHeld = false) (hstrap : s.cfl.strap = .terminal) :
    s.portActive = true := s.portActive_iff.2 ⟨hheld, hstrap⟩

/-- The free bits of a payload byte reach only the bits of the mask (R192). -/
theorem State.withSpare_and (s : State) (k : Nat) {mask fields : Byte} (h : mask &&& fields = 0) (value : Byte) :
    s.withSpare k mask value &&& fields = value &&& (fields &&& ~~~mask) := by
  have hspare : Config.spareBits s.spare k &&& mask &&& fields = 0 := by
    rw [BitVec.and_assoc, h]
    exact BitVec.and_zero
  rw [State.withSpare, BitVec.and_or_distrib_right, hspare, BitVec.and_assoc, BitVec.and_comm (~~~mask)]
  exact BitVec.zero_or

/-- Bytes 0 and 1 of READ_STATUS (R176, R192). -/
theorem byteOf_bankStates (x y : BankState) :
    byteOf (4 * x.code + y.code) &&& 0x0F = (byteOf x.code <<< 2) ||| byteOf y.code := by
  cases x <;> cases y <;> rfl

/-- The causes in their bits (R192). -/
theorem byteOf_causes (c : Causes) :
    byteOf c.code &&& 0x1F =
      ((if c.recordTimer then 1 else 0) ||| (if c.absoluteTimer then 2 else 0) ||| (if c.critical then 4 else 0) |||
        (if c.lowSpace then 8 else 0) ||| (if c.overrun then 16 else 0)) := by
  obtain ⟨r, a, k, l, o⟩ := c
  revert r a k l o
  decide

/-- Settles O42: the fields of the bytes, state by state and cause by cause. -/
theorem readStatusReportsAndClears : Obligations.ReadStatusReportsAndClears := by
  intro s hheld hstrap result check bankState bit causes
  have hport : s.portActive = true := State.portActive_of hheld hstrap
  have hresult : byteOf (loadResultCode s.cfl.result) = result := by
    simp only [result]
    generalize s.cfl.result = x
    rcases x with _ | x
    · rfl
    · cases x <;> rfl
  have hcheck : byteOf (failingCheck s.cfl.result) = check := by
    simp only [check]
    generalize s.cfl.result = x
    rcases x with _ | x
    · rfl
    · cases x <;> rfl
  have hbank (x : BankState) : byteOf x.code = bankState x := by cases x <;> rfl
  have hexec : exec .readStatus s =
      .next { s with
              spare := s.spare + 1
              tpt := { s.tpt with causes := Causes.empty, response := some (Response.ok s.statusPayload) } } := by
    simp only [exec, execReadStatus, hport, if_true]
    rfl
  refine ⟨_, s.withSpare 3 0xF0 (byteOf (4 * s.rbe.state.code + s.rbw.state.code)),
    s.withSpare 6 0xE0 (byteOf s.tpt.causes.code), hexec, ?next, ?banks, ?causes, ?attention⟩
  case next =>
    rw [State.statusPayload, hresult, hcheck]
    rfl
  case banks =>
    rw [s.withSpare_and 3 (by decide), ← hbank, ← hbank, ← byteOf_bankStates]
    rfl
  case causes =>
    rw [s.withSpare_and 6 (by decide)]
    exact byteOf_causes s.tpt.causes
  case attention => exact if_pos hport

end Sys2Proof.Machine
end

section
/-! The table and queue reads of the Terminal Port, byte by byte (O43). -/

namespace Sys2Proof.Machine

/-! ### Bytes and words (R192) -/

theorem bytesOf_two (v : Nat) : bytesOf 2 v = [byteOf (v / 256), byteOf v] := by
  simp [bytesOf, List.range, List.range.loop, Nat.shiftRight_eq_div_pow]

theorem bytesOf_four (v : Nat) :
    bytesOf 4 v = [byteOf (v / 2 ^ 24), byteOf (v / 2 ^ 16), byteOf (v / 2 ^ 8), byteOf v] := by
  simp [bytesOf, List.range, List.range.loop, Nat.shiftRight_eq_div_pow]

/-- The counts of a station leave bit 3 of their byte clear (R190). -/
theorem byteOf_counts {n m : Nat} (hn : n < 8) (hm : m < 8) (role : Role) :
    byteOf (128 * roleCode role + 16 * n + m) &&& 0xF7 = byteOf (128 * roleCode role + 16 * n + m) := by
  have h : ∀ (r : Fin 2) (n m : Fin 8),
      byteOf (128 * r.val + 16 * n.val + m.val) &&& 0xF7 = byteOf (128 * r.val + 16 * n.val + m.val) := by decide
  cases role
  · exact h 0 ⟨n, hn⟩ ⟨m, hm⟩
  · exact h 1 ⟨n, hn⟩ ⟨m, hm⟩

theorem State.cfg_n_lt (s : State) : s.cfg.n < 8 := by
  rw [State.cfg, readCommissioning_n]
  omega

theorem State.cfg_m_lt (s : State) : s.cfg.m < 8 := by
  rw [State.cfg, readCommissioning_m]
  omega

/-! ### The answers (R177, R184) -/

/-- An answer OK with `payload`, which changes nothing but the response and the count of free values. -/
def Answers (s : State) (c : Instr) (payload : List Byte) : Prop :=
  ∃ k, exec c s = .next { s with spare := k, tpt := { s.tpt with response := some ⟨.ok, payload⟩ } }

section
variable {s : State} {q : Byte}

theorem answers_readPresence (hport : s.portActive = true) {payload : List Byte}
    (h : s.presenceResponse q.toNat = Response.ok payload) : Answers s (.readPresence q) payload := by
  refine ⟨s.spare, ?_⟩
  simp only [exec, execReadPresence, hport, if_true, h]
  rfl

theorem answers_readObservation (hport : s.portActive = true) {payload : List Byte}
    (h : s.observationResponse q.toNat = Response.ok payload) : Answers s (.readObservation q) payload := by
  refine ⟨s.spare + 1, ?_⟩
  simp only [exec, execReadObservation, hport, if_true, h]
  rfl

theorem answers_readRecord (hport : s.portActive = true) {r : Record} (h : s.tpt.queue[q.toNat]? = some r) :
    Answers s (.readRecord q) (s.recordPayload r) := by
  refine ⟨s.spare + 1, ?_⟩
  simp only [exec, execReadRecord, hport, if_true, h]
  rfl

theorem answers_readRecord_empty (hport : s.portActive = true) (h : s.tpt.queue.length ≤ q.toNat) :
    Answers s (.readRecord q) [] := by
  refine ⟨s.spare, ?_⟩
  simp only [exec, execReadRecord, hport, if_true, List.getElem?_eq_none h]
  rfl

theorem State.presenceResponse_of_entry {q : Nat} (hvalid : s.cfl.valid = true) {e : MapEntry}
    (h : findEntry s.inboundMap q = some e) : s.presenceResponse q = Response.ok (presencePayload e) := by
  rw [State.presenceResponse, if_pos hvalid, h]

theorem State.presenceResponse_of_none {q : Nat} (h : s.cfl.valid = false ∨ findEntry s.inboundMap q = none) :
    s.presenceResponse q = Response.ok [] := by
  unfold State.presenceResponse
  split
  · next hvalid =>
    rw [h.resolve_left (by simp [hvalid])]
    rfl
  · rfl

theorem State.observationResponse_own {x : Sending} (hvalid : s.cfl.valid = true) (hx : s.ttx = .sending x) :
    s.observationResponse s.cfg.position = Response.ok (s.ownPayload
      { role := s.cfg.role, pairs := s.cfg.n, pumpCount := s.cfg.m, supPair := s.cfg.supPair, marker := x.marker,
        probe := s.pru.flag, amps := s.ownAmps, pumps := s.ownPumps }) := by
  rw [State.observationResponse, if_pos hvalid, if_pos rfl, State.ownRecord, hx]

theorem State.observationResponse_neighbour {q : Nat} (hvalid : s.cfl.valid = true) (hq : q ≠ s.cfg.position)
    {r : Neighbour} (hr : findRecord s.records q = some r) :
    s.observationResponse q = Response.ok (s.neighbourPayload r) := by
  rw [State.observationResponse, if_pos hvalid, if_neg hq, hr]

theorem State.observationResponse_none {q : Nat}
    (h : s.cfl.valid = false ∨ q ≠ s.cfg.position ∧ findRecord s.records q = none) :
    s.observationResponse q = Response.ok [] := by
  unfold State.observationResponse
  split
  · next hvalid =>
    obtain ⟨hq, hr⟩ := h.resolve_left (by simp [hvalid])
    rw [if_neg hq, hr]
    rfl
  · rfl

end

/-- The map that READ_PRESENCE reads is the inbound bank's (R45, R46). -/
theorem State.inboundMap_eq (s : State) :
    s.inboundMap = if s.cfg.role = .terminal ∧ s.cfg.position = s.cfg.west then s.rbw.map else s.rbe.map := by
  rw [State.inboundMap, Commissioning.isOutbound_eq]
  simp

/-! ### The fields -/

/-- A directive value in two payload bytes, bit 14 free (R192). -/
def DirectiveBytes (d : Option Directive) (hi lo : Byte) : Prop :=
  match d with
  | none => hi = 0 ∧ lo = 0
  | some d =>
    hi &&& 0xBF = byteOf ((0x8000 + 0x1000 * d.kind.code + 16 * d.target + d.id) / 256) &&& 0xBF ∧
      lo = byteOf (0x8000 + 0x1000 * d.kind.code + 16 * d.target + d.id)

theorem State.directiveValue_eq (s : State) (k : Nat) (d : Option Directive) :
    ∃ hi lo, s.directiveValue k d = [hi, lo] ∧ DirectiveBytes d hi lo := by
  cases d with
  | none => exact ⟨0, 0, rfl, rfl, rfl⟩
  | some d => exact ⟨_, _, rfl, s.withSpare_and k (by decide) _, rfl⟩

/-- The codes of the old and the new value of a change, where they are not directives (R188, R192). -/
def Change.valueCodes : Change → Option (Nat × Nat)
  | .presence o n => some (o.code, n.code)
  | .ampState _ o n => some (o.code, n.code)
  | .spanVerdict _ o n => some (o.code, n.code)
  | .gainVerdict _ o n => some (o.code, n.code)
  | .pumpState _ o n => some (o.code, n.code)
  | .pumpVerdict _ o n => some (o.code, n.code)
  | .directive _ _ => none

/-- The values of a change in bytes 4 to 7 of a record (R192). -/
theorem State.changeValues_eq (s : State) (c : Change) :
    ∃ o1 o2 n1 n2, s.changeValues c = [o1, o2, n1, n2] ∧
      (∀ o n, c.valueCodes = some (o, n) → o1 = 0 ∧ o2 = byteOf o ∧ n1 = 0 ∧ n2 = byteOf n) ∧
      ∀ o n, c = .directive o n → DirectiveBytes o o1 o2 ∧ DirectiveBytes (some n) n1 n2 := by
  cases hv : c.valueCodes with
  | some v =>
    refine ⟨0, byteOf v.1, 0, byteOf v.2, ?_, fun o n h => ?_, fun o n h => ?_⟩
    · cases c <;> cases hv <;> rfl
    · cases h
      exact ⟨rfl, rfl, rfl, rfl⟩
    · rw [h] at hv
      cases hv
  | none =>
    obtain ⟨o, n, rfl⟩ : ∃ o n, c = .directive o n := by
      cases c
      case directive o n => exact ⟨o, n, rfl⟩
      all_goals cases hv
    obtain ⟨o1, o2, ho, hold⟩ := s.directiveValue_eq 4 o
    obtain ⟨n1, n2, hn, hnew⟩ := s.directiveValue_eq 6 (some n)
    refine ⟨o1, o2, n1, n2, ?_, fun _ _ h => absurd h (by simp), fun o' n' h => ?_⟩
    · rw [State.changeValues, ho, hn]
      rfl
    · cases h
      exact ⟨hold, hnew⟩

/-- The counts byte, bit 3 free (R192). -/
theorem State.countsByte_and (s : State) (role : Role) (n m : Nat) :
    s.countsByte role n m &&& 0xF7 = byteOf (128 * roleCode role + 16 * n + m) &&& 0xF7 :=
  s.withSpare_and 6 (by decide) _

/-- The probe byte of a neighbour record (R82, R192). -/
theorem State.neighbourProbeByte_and (s : State) (f : Frame) :
    s.neighbourProbeByte f &&& 0xB3 =
      byteOf (128 * (if f.probeActive then 1 else 0) + 16 * f.probePump + f.marker.code) &&& 0xB3 := by
  have hflag : flagBit 7 f.probeActive = 128 * if f.probeActive then 1 else 0 := by cases f.probeActive <;> rfl
  rw [← hflag]
  exact s.withSpare_and 7 (by decide) _

/-- The probe byte of the own record, whose pump field is free while the flag is clear (R192, log entry 4). -/
theorem State.probeByte_none_and (s : State) (m : Marker) : s.probeByte none m &&& 0x83 = byteOf m.code := by
  refine (s.withSpare_and 7 (by decide) _).trans ?_
  cases m <;> rfl

theorem State.probeByte_some_and (s : State) (j : Nat) (m : Marker) :
    s.probeByte (some j) m &&& 0xB3 = byteOf (128 + 16 * j + m.code) &&& 0xB3 := s.withSpare_and 7 (by decide) _

theorem Pru.flag_of_probing {p : Pru} {pr : Probe} {w : Moment} (h : p.state = .probing pr w) : p.flag = some pr.pump := by
  rw [Pru.flag, h]

theorem Pru.flag_of_not_probing {p : Pru} (h : ∀ pr w, p.state ≠ .probing pr w) : p.flag = none := by
  rw [Option.eq_none_iff_forall_ne_some]
  intro j hj
  obtain ⟨pr, w, hst⟩ := p.flag_isSome_iff.1 (by rw [hj]; rfl)
  exact h pr w hst

theorem State.ownAmps_length (s : State) : s.ownAmps.length = min s.flt.spans.length s.flt.amps.length := by
  rw [State.ownAmps, List.length_mapIdx, List.length_zip]

theorem State.ownPumps_length (s : State) : s.ownPumps.length = min s.pbc.pumps.length s.flt.pumps.length := by
  rw [State.ownPumps, List.length_map, List.length_zip]

/-- An own amplifier entry read from its owners (R68). -/
theorem State.ownAmp_eq {s : State} {a : Nat} {lastIn sIn lastOut sOut : Int} {cls : LightClass}
    (hin : s.lmu.inputs[a]? = some (.tracking lastIn sIn cls)) (hout : s.lmu.outputs[a]? = some (.tracking lastOut sOut))
    (span : SpanEntry) (amp : AmpEntry) :
    s.ownAmp a span amp =
      { frame := ⟨sIn, sOut, cls, s.pbc.ampState s.cfg a, span.verdict, amp.verdict⟩
        lastIn := some lastIn, lastOut := some lastOut, spanSince := span.since, gainSince := amp.since } := by
  obtain ⟨hsIn, hcls⟩ := Lmu.sIn_of_tracking hin
  rw [State.ownAmp, hsIn, hcls, Lmu.sOut_of_tracking hout, hin, hout]
  rfl

/-- Settles O43: each response is the model's payload, and its fields are those of R192. -/
theorem tableReadsOnlyRespond : Obligations.TableReadsOnlyRespond := by
  intro q s hheld hstrap answers byte word16 word32 signed presence lightClass ampState span verdict pumpState role marker
    severity kind directive ampBytes pumpBytes map
  have hport : s.portActive = true := State.portActive_of hheld hstrap
  have hrole (x : Role) : roleCode x = role x := by cases x <;> rfl
  have hmarker (x : Marker) : x.code = marker x := by cases x <;> rfl
  have hlight (x : LightClass) : x.code = lightClass x := by cases x <;> rfl
  have hampState (x : AmpState) : x.code = ampState x := by cases x <;> rfl
  have hspan (x : SpanVerdict) : x.code = span x := by cases x <;> rfl
  have hverdict (x : Verdict) : x.code = verdict x := by cases x <;> rfl
  have hpumpState (x : PumpState) : x.code = pumpState x := by cases x <;> rfl
  have hkind (x : DirectiveKind) : x.code = kind x := by cases x <;> rfl
  have hpresence (x : Presence) : x.code = presence x := by cases x <;> rfl
  have hseverity (x : Severity) : x.code = severity x := by cases x <;> rfl
  have hword16 (v : Nat) : bytesOf 2 v = word16 v := bytesOf_two v
  have hword32 (v : Nat) : bytesOf 4 v = word32 v := bytesOf_four v
  have hsigned (x : Int) : bytesOf 2 (signedWord x) = signed x := by
    rw [hword16, signedWord_eq]
    rfl
  have hdirective (d : Option Directive) (hi lo : Byte) (h : DirectiveBytes d hi lo) : directive d hi lo := by
    cases d with
    | none => exact h
    | some d =>
      have hk := hkind d.kind
      simp only [DirectiveBytes, hk] at h
      exact h
  have hamp (a : FrameAmp) : frameAmpBytes a = ampBytes a.sIn a.sOut a.cls a.state a.span a.gain := by
    rw [frameAmpBytes, hsigned, hsigned, hlight, hampState, hspan, hverdict]
    rfl
  have hpump (p : FramePump) : framePumpBytes p = pumpBytes p.state p.verdict := by
    rw [framePumpBytes, hpumpState, hverdict]
    rfl
  have hmap : s.inboundMap = map := s.inboundMap_eq
  refine ⟨⟨hrole, hmarker, hlight, hampState, hspan, hverdict, hpumpState, hkind⟩, fun e hvalid he => ?presence,
    fun h => ?noPresence, fun r hr => ?record, fun h => ?noRecord, fun r hvalid hq hr => ?neighbour,
    fun x hvalid hq hx => ?own, fun h => ?noObservation⟩
  case presence =>
    have h := answers_readPresence hport (State.presenceResponse_of_entry hvalid (hmap ▸ he))
    have hpending : byteOf (pendingCode e.pending) = match e.pending with | some x => byte (presence x) | none => 0xFF := by
      cases e.pending with
      | none => rfl
      | some x => exact congrArg byteOf (hpresence x)
    rw [presencePayload, hpending, hpresence, hword32] at h
    exact h
  case noPresence => exact answers_readPresence hport (State.presenceResponse_of_none (hmap ▸ h))
  case record =>
    intro layout
    have h := answers_readRecord hport hr
    have hlayout : layout = (r.change.kindCode, r.change.elementCode, r.change.fieldCode, r.change.valueCodes) := by
      simp only [layout]
      generalize r.change = c
      cases c <;> simp only [Change.valueCodes, hpresence, hampState, hspan, hverdict, hpumpState] <;> rfl
    obtain ⟨o1, o2, n1, n2, hvalues, hcodes, hdirectives⟩ := s.changeValues_eq r.change
    rw [State.recordPayload, hvalues, hword32, hseverity] at h
    rw [hlayout]
    refine ⟨o1, o2, n1, n2, h, hcodes, fun o n hc => ?_⟩
    obtain ⟨hold, hnew⟩ := hdirectives o n hc
    exact ⟨hdirective _ _ _ hold, hdirective _ _ _ hnew⟩
  case noRecord => exact answers_readRecord_empty hport h
  case neighbour =>
    intro head
    have h := answers_readObservation hport (State.observationResponse_neighbour hvalid hq hr)
    have hbank : byteOf (bankCode r.bank) = match r.bank with | .e => 0 | .w => 1 := by
      cases r.bank <;> rfl
    have hfreshness : byteOf r.freshness.code = match r.freshness with | .vacant => 0 | .fresh => 1 | .stale => 2 := by
      cases r.freshness <;> rfl
    have hhead : [byteOf r.origin, 1, byteOf (bankCode r.bank), byteOf r.freshness.code] ++ bytesOf 2 r.age = head := by
      rw [hbank, hfreshness, hword16] <;> rfl
    rw [State.neighbourPayload, hhead] at h
    refine ⟨fun hc => ?noContents, fun f hc => ?contents⟩
    case noContents =>
      rw [hc] at h
      exact h
    case contents =>
      obtain ⟨d1, d2, hd, hdir⟩ := s.directiveValue_eq (9 + 8 * f.amps.length + 2 * f.pumps.length) f.directive
      rw [hc] at h
      dsimp only at h
      rw [hd, funext hamp, funext hpump] at h
      have hcounts := s.countsByte_and f.role f.pairs f.pumpCount
      have hprobe := s.neighbourProbeByte_and f
      rw [hrole] at hcounts
      rw [hmarker] at hprobe
      refine ⟨s.countsByte f.role f.pairs f.pumpCount, s.neighbourProbeByte f, d1, d2, ?_, hcounts, hprobe,
        hdirective _ _ _ hdir⟩
      simp only [List.append_assoc] at h ⊢
      exact h
  case own =>
    have h := answers_readObservation hport ((congrArg _ hq).trans (State.observationResponse_own hvalid hx))
    rw [State.ownPayload, List.flatMap_def, List.flatMap_def] at h
    refine ⟨_, _, s.ownAmps.map ownAmpBytes, s.ownPumps.map ownPumpBytes, h, ?counts, fun pr w hst => ?whileProbing,
      fun hst => ?whileIdle, ?amps, ?pumps, fun a lastIn sIn cls lastOut sOut eS eA hin hout hS hA => ?amp,
      fun j y e hy he => ?pump⟩
    case counts =>
      rw [← hrole]
      exact (s.countsByte_and s.cfg.role s.cfg.n s.cfg.m).trans (byteOf_counts s.cfg_n_lt s.cfg_m_lt s.cfg.role)
    case whileProbing =>
      rw [Pru.flag_of_probing hst, ← hmarker]
      exact s.probeByte_some_and pr.pump x.marker
    case whileIdle =>
      rw [Pru.flag_of_not_probing hst, ← hmarker]
      exact s.probeByte_none_and x.marker
    case amps => rw [List.length_map, State.ownAmps_length]
    case pumps => rw [List.length_map, State.ownPumps_length]
    case amp =>
      rw [List.getElem?_map, State.ownAmps_getElem? hS hA, State.ownAmp_eq hin hout, Option.map_some, ownAmpBytes, hamp]
      simp only [Option.getD_some, hsigned, hword32]
    case pump =>
      rw [List.getElem?_map, State.ownPumps_getElem? hy he, Option.map_some, ownPumpBytes, hpump, hword32]
  case noObservation => exact answers_readObservation hport (State.observationResponse_none h)

end Sys2Proof.Machine
end

section
/-! The SPI transaction at its pins, the commands of the queue and the attention timers (O45). -/

namespace Sys2Proof.Machine

/-! ### The pins (R175) -/

/-- What new levels at the pins do to the transaction in progress (R175). -/
theorem Spi.follow_released (x : Spi) {p : SpiPins} (h : p.csn = .high) : x.follow p = none := by
  rw [Spi.follow, h]

theorem Spi.follow_selected {x : Spi} {p : SpiPins} (hx : x.pins.csn = .high) (h : p.csn = .low) : x.follow p = some [] := by
  rw [Spi.follow, hx, h]

theorem Spi.follow_low {x : Spi} {p : SpiPins} (hx : x.pins.csn = .low) (h : p.csn = .low) :
    x.follow p = x.bits.map fun bits =>
      if x.pins.sck = .low ∧ p.sck = .high then bits ++ [decide (p.sdi = .high)] else bits := by
  have hrises : x.pins.rises p = true ↔ x.pins.sck = .low ∧ p.sck = .high := by simp [SpiPins.rises]
  have hdata : (p.sdi == .high) = decide (p.sdi = .high) := by cases p.sdi <;> rfl
  rw [Spi.follow, hx, h]
  simp only [hrises, hdata]

/-- The levels at the pins through one clock with data `b`, SCK low and then high (R175). -/
def clockLevels (b : Bool) : List SpiPins := [⟨.low, levelOf b, .low⟩, ⟨.high, levelOf b, .low⟩]

/-- Each clock with chip select low adds the level of SDI to the bits sampled. -/
theorem Spi.bits_of_clocks (sent : List Bool) (x : Spi) (bits : List Bool) (hc : x.pins.csn = .low) (hb : x.bits = some bits) :
    ((sent.flatMap clockLevels).foldl (fun y p => y.see true p) x).bits = some (bits ++ sent) := by
  induction sent generalizing x bits with
  | nil => rw [List.append_nil]; exact hb
  | cons b sent ih =>
    have hclock := x.see_clock (levelOf b) bits hc hb
    have hlevel : (levelOf b == .high) = b := by cases b <;> rfl
    rw [hlevel] at hclock
    rw [List.flatMap_cons, List.foldl_append]
    exact (ih _ (bits ++ [b]) rfl hclock).trans (by rw [List.append_assoc]; rfl)

/-- A step on an empty queue takes the levels that wait: they take a command when they complete it, and no others do. -/
theorem step_levels {s : State} {p : SpiPins} {rest : List SpiPins} (hempty : s.pending = []) (hwait : s.spi.waiting = p :: rest) :
    let spi : Spi := { s.spi.see s.portActive p with waiting := rest }
    (∀ c, s.spi.bits.bind decodeBits = none → spi.bits.bind decodeBits = some c → step s = exec c { s with spi := spi }) ∧
      (s.spi.bits.bind decodeBits ≠ none ∨ spi.bits.bind decodeBits = none → step s = .next { s with spi := spi }) := by
  intro spi
  have hstep : step s = State.seePins { s with spi := { s.spi with waiting := rest } } p := by
    simp only [step, hempty, hwait]
  rcases State.seePins_eq { s with spi := { s.spi with waiting := rest } } p with ⟨c, hnone, hsome, heq⟩ | ⟨hno, heq⟩
  · refine ⟨fun c' _ hc' => ?_, fun h => ?_⟩
    · cases hsome.symm.trans hc'
      exact hstep.trans heq
    · exact (h.elim (fun h => h hnone) fun h => nomatch hsome.symm.trans h).elim
  · exact ⟨fun c hnone hsome => (hno.elim (fun h => h hnone) fun h => nomatch hsome.symm.trans h).elim,
      fun _ => hstep.trans heq⟩

/-! ### The data output (R188, R191) -/

theorem State.portActive_eq_false_iff (s : State) :
    s.portActive = false ↔ s.cfl.resetHeld = true ∨ s.cfl.strap ≠ .terminal := by
  rw [← Bool.not_eq_true, State.portActive_iff, not_and_or, Bool.not_eq_false]

theorem State.dataOut_high (s : State) (code : Byte) (i : Nat) : s.dataOut .high code i = none := rfl

theorem State.dataOut_inactive {s : State} (h : s.portActive = false) (select : Level) (code : Byte) (i : Nat) :
    s.dataOut select code i = none := by
  unfold State.dataOut
  rw [h]
  cases select <;> rfl

theorem State.dataOut_response {s : State} (h : s.portActive = true) {r : Response} (hr : s.tpt.response = some r) (code : Byte)
    (i : Nat) :
    s.dataOut .low code i = some (if (r.outByte code (i / 8)).toNat.testBit (7 - i % 8) then .high else .low) := by
  have hbit : (r.outByte code (i / 8)).getMsbD (i % 8) = (r.outByte code (i / 8)).toNat.testBit (7 - i % 8) := by
    rw [BitVec.getMsbD_eq_getLsbD, decide_eq_true (Nat.mod_lt i (by decide)), Bool.true_and, BitVec.testBit_toNat]
  unfold State.dataOut
  rw [h, hr, ← hbit] <;> rfl

/-- SDO is high-impedance while chip select is high or the port inactive. -/
theorem State.sdo_none {s : State} (h : s.spi.pins.csn = .high ∨ s.portActive = false) : s.sdo = none := by
  have hdata (code : Byte) (i : Nat) : s.dataOut s.spi.pins.csn code i = none := by
    rcases h with h | h
    · rw [h, State.dataOut_high]
    · exact State.dataOut_inactive h ..
  have hidle : (s.portActive && s.spi.pins.csn == .low) = false := by
    rcases h with h | h
    · rw [h, Bool.and_eq_false_iff]
      exact .inr rfl
    · rw [h, Bool.false_and]
  unfold State.sdo
  split
  · exact hdata ..
  · rw [hidle]
    rfl

theorem State.sdo_before_command {s : State} (hlow : s.spi.pins.csn = .low) (hport : s.portActive = true)
    (h : s.spi.command = none) : s.sdo = some .high := by
  rw [State.sdo, h, hlow, hport]
  cases s.spi.bits <;> rfl

theorem State.sdo_of_command {s : State} {bits : List Bool} {code : Byte} (hlow : s.spi.pins.csn = .low)
    (hbits : s.spi.bits = some bits) (hcommand : decodeBits bits ≠ none) (hcode : (bytesClocked bits).head? = some code) :
    s.sdo = s.dataOut .low code (if s.spi.pins.sck = .low then bits.length else bits.length - 1) := by
  obtain ⟨c, hc⟩ := Option.ne_none_iff_exists'.1 hcommand
  have hsome : s.spi.command = some c := by rw [Spi.command, hbits]; exact hc
  have hhead : (bytesClocked bits).headD 0 = code := by rw [List.headD_eq_head?_getD, hcode]; rfl
  have hshown : s.spi.clockShown bits = if s.spi.pins.sck = .low then bits.length else bits.length - 1 := by
    unfold Spi.clockShown
    cases s.spi.pins.sck <;> rfl
  rw [State.sdo, hsome, hbits]
  dsimp only
  rw [hhead, hshown, hlow]

/-! ### The bytes of a transaction (R191) -/

/-- R191: the operand bytes of each command. -/
theorem operandCount_eq (code : Byte) :
    operandCount code =
      if code = 0x02 ∨ code = 0x03 ∨ code = 0x06 ∨ code = 0x07 then 1 else if code = 0x04 then 2 else 0 := by
  revert code
  decide

/-- R191: a code that is none of the eight is a BAD_COMMAND. -/
theorem decodeTransaction_bad {code : Byte} (h : code = 0 ∨ 8 < code.toNat) (rest : List Byte) :
    decodeTransaction (code :: rest) = some (.badCommand code) := by
  have hcode : code.toNat = 0 ∨ 8 < code.toNat := h.imp_left fun h => by rw [h]; rfl
  simp only [decodeTransaction]
  split
  case h_14 => rfl
  all_goals omega

/-- R191: the eight commands, and the codes that are none. -/
theorem command_cases (code : Byte) :
    code = 0x01 ∨ code = 0x05 ∨ code = 0x08 ∨ (code = 0x02 ∨ code = 0x03 ∨ code = 0x06 ∨ code = 0x07) ∨ code = 0x04 ∨
      code = 0 ∨ 8 < code.toNat := by
  revert code
  decide

theorem operandCount_bad {code : Byte} (h : code = 0 ∨ 8 < code.toNat) : operandCount code = 0 := by
  revert code
  decide

/-- R191: no command is taken before its last operand byte. -/
theorem decodeTransaction_eq_none_iff (code : Byte) (rest : List Byte) :
    decodeTransaction (code :: rest) = none ↔ rest.length < operandCount code := by
  rcases command_cases code with rfl | rfl | rfl | hone | rfl | hbad
  iterate 3 · simp [decodeTransaction, operandCount]
  · rcases hone with rfl | rfl | rfl | rfl <;> cases rest <;> simp [decodeTransaction, operandCount]
  · rcases rest with _ | ⟨a, _ | ⟨b, rest⟩⟩ <;> simp [decodeTransaction, operandCount]
  · rw [decodeTransaction_bad hbad, operandCount_bad hbad]
    simp

/-- R191: filler while the command and its operands are clocked in, then status, length and payload, then filler. -/
theorem Response.outByte_spec (r : Response) (code : Byte) (k : Nat) :
    (k ≤ operandCount code → r.outByte code k = 0xFF) ∧
      r.outByte code (operandCount code + 1) = byteOf r.status.code ∧
      r.outByte code (operandCount code + 2) = byteOf r.payload.length ∧
      r.outByte code (operandCount code + 3 + k) = r.payload.getD k 0xFF := by
  have hafter (i : Nat) : r.outByte code (operandCount code + 1 + i) = r.bytes.getD i 0xFF := by
    rw [Response.outByte, if_neg (by omega), Response.byteAt]
    congr 1
    omega
  refine ⟨fun h => if_pos h, hafter 0, hafter 1, ?_⟩
  have hpayload : operandCount code + 3 + k = operandCount code + 1 + (k + 2) := by omega
  rw [hpayload, hafter]
  rfl

/-! ### The commands of the queue and the timers (R179, R184, R185) -/

theorem exec_recordTimerExpiry {s : State} {d : Moment} (h : s.tpt.recordTimer = some d) :
    exec .recordTimerExpiry s =
      .next { s with
              now := max s.now d
              tpt := { s.tpt with causes := { s.tpt.causes with recordTimer := true }, recordTimer := none,
                                  absoluteTimer := none } } := by
  simp only [exec, execRecordTimerExpiry, h, Tpt.raise, Causes.union, Causes.empty, Bool.or_false, Bool.or_true]
  rfl

theorem exec_absoluteTimerExpiry {s : State} {d : Moment} (h : s.tpt.absoluteTimer = some d) :
    exec .absoluteTimerExpiry s =
      .next { s with
              now := max s.now d
              tpt := { s.tpt with causes := { s.tpt.causes with absoluteTimer := true }, recordTimer := none,
                                  absoluteTimer := none } } := by
  simp only [exec, execAbsoluteTimerExpiry, h, Tpt.raise, Causes.union, Causes.empty, Bool.or_false, Bool.or_true]
  rfl

/-- Settles O45: the pins, the bytes they spell and give, and the commands and timers of the queue. -/
theorem queueCommandsAndTimersAct : Obligations.QueueCommandsAndTimersAct := by
  unfold Obligations.QueueCommandsAndTimersAct
  intro operands bits clock
  have hoperands (code : Byte) : operandCount code = operands code := operandCount_eq code
  have hactive (s : State) : s.portActive = decide (s.cfl.resetHeld = false ∧ s.cfl.strap = .terminal) := by
    rw [Bool.eq_iff_iff, State.portActive_iff, decide_eq_true_eq]
  refine ⟨fun x p => ⟨rfl, rfl, x.follow_released, fun hlow hhigh => Spi.follow_selected hhigh hlow,
      fun hlow hx hnone => ?noTransaction, fun sampled hlow hx hsampled => ?sampled⟩, fun x d sent hx => ?clocks,
    fun s p rest hempty hwait => ?levels, fun s => ⟨fun h => State.sdo_none ?_, fun hlow hheld hstrap => ⟨fun h => ?_, ?_⟩⟩,
    fun a b rest => ⟨rfl, rfl, rfl, rfl, rfl, rfl, rfl, rfl, rfl, fun h => decodeTransaction_bad h rest, ?operands⟩,
    fun sent cut hcut => congrArg decodeTransaction (bytesClocked_sent sent cut hcut), fun r code k => ?bytes,
    fun s code i => ⟨rfl, fun h => State.dataOut_inactive (s.portActive_eq_false_iff.2 h) _ code i,
      fun r hheld hstrap hr => State.dataOut_response (State.portActive_of hheld hstrap) hr code i⟩,
    fun s hheld hstrap => ?commands, fun d s h => exec_recordTimerExpiry h, fun d s h => exec_absoluteTimerExpiry h⟩
  case noTransaction => rw [Spi.see_active, Spi.follow_low hx hlow, hnone]; rfl
  case sampled => rw [Spi.see_active, Spi.follow_low hx hlow, hsampled]; rfl
  case clocks =>
    have hselected : (x.see true ⟨.low, d, .low⟩).bits = some [] := Spi.follow_selected hx rfl
    exact Spi.bits_of_clocks sent (x.see true ⟨.low, d, .low⟩) [] rfl hselected
  case levels =>
    intro active spi
    have h := step_levels hempty hwait
    rw [hactive] at h
    exact h
  case operands => rw [← hoperands]; exact decodeTransaction_eq_none_iff a rest
  case bytes =>
    intro status
    have hstatus : byteOf r.status.code = status := by
      simp only [status]
      cases r.status <;> rfl
    rw [← hoperands, ← hstatus]
    exact r.outByte_spec code k
  case commands =>
    have hport : s.portActive = true := State.portActive_of hheld hstrap
    refine ⟨?_, fun n => ?_, ?_, fun code => ?_⟩
    · simp only [exec, execClearDirective, hport, if_true]
      rfl
    · simp only [exec, execAdvance, hport, if_true, List.length_drop]
      rfl
    · simp only [exec, execClearQueue, hport, if_true]
      rfl
    · simp only [exec, execBadCommand, hport, if_true]
      rfl
  · exact h.imp_right s.portActive_eq_false_iff.2
  · exact State.sdo_before_command hlow (State.portActive_of hheld hstrap) h
  · intro sampled code hbits hcommand hcode
    exact State.sdo_of_command hlow hbits hcommand hcode

end Sys2Proof.Machine
end

section
/-! Commands whose event is not due (O47). -/

namespace Sys2Proof.Machine

/-! ### The load -/

theorem Cfl.isLoading_eq_false {x : Cfl} {phase : LoadPhase} (h : x.resetHeld = true ∨ x.phase ≠ phase) :
    x.isLoading phase = false := by
  rw [← Bool.not_eq_true, Cfl.isLoading_iff]
  exact fun ⟨hheld, hphase⟩ => h.elim (fun h => by simp [h] at hheld) fun h => h hphase

section
variable {s : State}

theorem exec_loadBegin_of_running (h : s.cfl.resetHeld = false) (x : Level) : exec (.loadBegin x) s = .next s := by
  simp only [exec, execLoadBegin, h, Bool.false_eq_true, if_false]

theorem exec_readingHeader_not_due (h : s.cfl.isLoading .readingHeader = false) (r : BusReply) :
    exec (.readingHeader r) s = .next s := by
  simp only [exec, execReadingHeader, h, Bool.false_eq_true, if_false]

theorem exec_readingBody_not_due (h : s.cfl.isLoading .readingBody = false) (r : BusReply) :
    exec (.readingBody r) s = .next s := by
  simp only [exec, execReadingBody, h, Bool.false_eq_true, if_false]

theorem exec_wordTransferTimeout_not_due (hheader : s.cfl.isLoading .readingHeader = false)
    (hbody : s.cfl.isLoading .readingBody = false) : exec .wordTransferTimeout s = .next s := by
  simp only [exec, execWordTransferTimeout, hheader, hbody, Bool.or_self, Bool.false_eq_true, if_false]

theorem exec_declareValid_not_due (h : s.cfl.isLoading .sampling = false) (r : Readings) :
    exec (.declareValid r) s = .next s := by
  simp only [exec, execDeclareValid, h, Bool.false_eq_true, if_false]

/-! ### The banks and their trackers -/

variable {b : Bank} {i : Nat} {k : Tracker}

theorem exec_confirmationTimerExpiry_not_due (h : (s.bank b).state ≠ .wakePending) :
    exec (.confirmationTimerExpiry b) s = .next s := by
  change execConfirmationTimerExpiry b s = _
  unfold execConfirmationTimerExpiry
  split
  · next hstate _ => exact absurd hstate h
  · rfl

theorem exec_dwellComplete_not_due (h : (s.bank b).state ≠ .running ∨ (s.bank b).dwell = none) (d : Depths) :
    exec (.dwellComplete b d) s = .next s := by
  change execDwellComplete b d s = _
  unfold execDwellComplete
  split
  · next w hstate hdwell => exact (h.elim (fun h => h hstate) fun h => nomatch hdwell.symm.trans h).elim
  · rfl

/-- No event of a tracker that does not exist. -/
theorem exec_tracker_missing (h : (s.bank b).trackers[i]? = none) :
    (∀ bits, exec (.syncFound b ⟨i, bits⟩) s = .next s ∧ exec (.frameChecked b i bits) s = .next s ∧
        exec (.syncMissing b ⟨i, bits⟩) s = .next s) ∧
      exec (.syncTimerExpiry b i) s = .next s := by
  refine ⟨fun bits => ⟨?_, ?_, ?_⟩, ?_⟩
  · simp only [exec, execSyncFound, h]
  · simp only [exec, execFrameChecked, h]
  · simp only [exec, execSyncMissing, h]
  · simp only [exec, execSyncTimerExpiry, h]

theorem exec_syncFound_not_due (hk : (s.bank b).trackers[i]? = some k) (h : k.state = .idle ∨ k.reception = .reading)
    (bits : List Bool) : exec (.syncFound b ⟨i, bits⟩) s = .next s := by
  rcases h with h | h
  · simp [exec, execSyncFound, hk, Tracker.isIdle, h]
  · refine exec_syncFound_none hk ?_
    rw [Tracker.findSync, h]

/-- A tracker that reads no frame takes one only as the second of a restart (R64). -/
theorem exec_frameChecked_not_reading (hk : (s.bank b).trackers[i]? = some k) (hread : k.reception ≠ .reading)
    (hcut : s.cutAt b i = none) (bits : List Bool) : exec (.frameChecked b i bits) s = .next s := by
  simp only [exec, execFrameChecked, hk, hcut]
  cases k.pos with
  | none => cases k.reception <;> rfl
  | some q =>
    cases hr : k.reception with
    | reading => exact absurd hr hread
    | hunting => rfl
    | expecting => rfl

theorem exec_frameChecked_unassigned (hk : (s.bank b).trackers[i]? = some k) (hpos : k.pos = none) (bits : List Bool) :
    exec (.frameChecked b i bits) s = .next s := by
  cases hr : k.reception <;> simp only [exec, execFrameChecked, hk, hpos, hr]

theorem exec_syncMissing_not_due (hk : (s.bank b).trackers[i]? = some k) (h : k.state ≠ .locked ∨ k.reception ≠ .expecting)
    (bits : List Bool) : exec (.syncMissing b ⟨i, bits⟩) s = .next s := by
  simp only [exec, execSyncMissing, hk]
  exact if_neg fun ⟨hstate, hexp, _⟩ => h.elim (fun h => h hstate) fun h => h hexp

theorem exec_syncTimerExpiry_not_due (hk : (s.bank b).trackers[i]? = some k) (h : k.state ≠ .locked ∨ k.sync = none) :
    exec (.syncTimerExpiry b i) s = .next s := by
  simp only [exec, execSyncTimerExpiry, hk]
  split
  · next d hstate hsync => exact (h.elim (fun h => h hstate) fun h => nomatch hsync.symm.trans h).elim
  · rfl

theorem State.cutAt_eq_none (h : (∀ r ahead, s.restarted = some r → r.moment = s.now → ⟨b, i, ahead⟩ ∉ r.cut) ∨
    (s.bank b).state ≠ .running) : s.cutAt b i = none := by
  rw [Option.eq_none_iff_forall_ne_some]
  intro ahead hcut
  obtain ⟨hrun, r, hr, hnow, hmem⟩ := State.cutAt_eq_some hcut
  exact h.elim (fun h => h r ahead hr hnow hmem) fun h => h hrun

/-! ### The other timers and requests -/

theorem exec_recordAgeTick_not_due {q : Byte} (h : ∀ r, findRecord s.records q.toNat = some r → r.age = 65535) :
    exec (.recordAgeTick q) s = .next s := by
  change execRecordAgeTick q s = _
  unfold execRecordAgeTick
  split
  · next r hr => exact if_neg (by rw [h r hr]; decide)
  · rfl

theorem exec_roundEpochRetry_not_due (h : ∀ r, s.pru.round = some r → r.turn ≠ .waitingEpoch) :
    exec .roundEpochRetry s = .next s := by
  change execRoundEpochRetry s = _
  unfold execRoundEpochRetry
  split
  · next r hr => exact if_neg (h r hr)
  · rfl

theorem exec_ampIsolationRequest_not_due (h : ∀ a kind rest, s.pbc.isolations ≠ .amp a kind :: rest) :
    exec .ampIsolationRequest s = .next s := by
  change execAmpIsolationRequest s = _
  unfold execAmpIsolationRequest
  split
  · next a kind rest heq => exact absurd heq (h a kind rest)
  · rfl

theorem exec_pumpIsolationRequest_not_due (h : ∀ j rest, s.pbc.isolations ≠ .pump j :: rest) :
    exec .pumpIsolationRequest s = .next s := by
  change execPumpIsolationRequest s = _
  unfold execPumpIsolationRequest
  split
  · next j rest heq => exact absurd heq (h j rest)
  · rfl

theorem exec_probeWindowExpiry_not_due (h : ∀ pr d, s.pru.state ≠ .probing pr d) : exec .probeWindowExpiry s = .next s := by
  change execProbeWindowExpiry s = _
  unfold execProbeWindowExpiry
  split
  · next pr d heq => exact absurd heq (h pr d)
  · rfl

theorem exec_gapTimerExpiry_not_due (h : s.pru.gap = none ∨ s.pru.round = none) : exec .gapTimerExpiry s = .next s := by
  change execGapTimerExpiry s = _
  unfold execGapTimerExpiry
  split
  · next d r hd hr => exact (h.elim (fun h => nomatch hd.symm.trans h) fun h => nomatch hr.symm.trans h : False).elim
  · rfl

/-- With the port inactive its commands are disregarded (R175). -/
theorem exec_port_inactive (h : s.portActive = false) :
    exec .readStatus s = .next s ∧ (∀ q, exec (.readPresence q) s = .next s) ∧ (∀ q, exec (.readObservation q) s = .next s) ∧
      (∀ x y, exec (.writeDirective x y) s = .next s) ∧ exec .clearDirective s = .next s ∧
      (∀ i, exec (.readRecord i) s = .next s) ∧ (∀ n, exec (.advance n) s = .next s) ∧ exec .clearQueue s = .next s ∧
      ∀ x, exec (.badCommand x) s = .next s := by
  simp [exec, execReadStatus, execReadPresence, execReadObservation, execWriteDirective, execClearDirective, execReadRecord,
    execAdvance, execClearQueue, execBadCommand, h]

end

/-- Settles O47: command by command, the branch of the model in which the event is not due. -/
theorem commandsNotDueChangeNothing : Obligations.CommandsNotDueChangeNothing := by
  intro s idle
  refine ⟨fun hempty hwait => ?nothing, exec_loadBegin_of_running, fun h => exec_readingHeader_not_due (Cfl.isLoading_eq_false h),
    fun h => exec_readingBody_not_due (Cfl.isLoading_eq_false h),
    fun h => exec_wordTransferTimeout_not_due (Cfl.isLoading_eq_false (h.imp_right And.left))
      (Cfl.isLoading_eq_false (h.imp_right And.right)),
    fun h => exec_declareValid_not_due (Cfl.isLoading_eq_false h), fun h r => ?sampleSet,
    fun b => exec_confirmationTimerExpiry_not_due, fun b d h => exec_dwellComplete_not_due h d,
    fun b i h => exec_tracker_missing h, fun b i k hk => ⟨exec_syncFound_not_due hk, exec_frameChecked_unassigned hk,
      fun hread h => exec_frameChecked_not_reading hk hread (State.cutAt_eq_none (.inl h)),
      fun hread h => exec_frameChecked_not_reading hk hread (State.cutAt_eq_none (.inr h)), exec_syncMissing_not_due hk,
      exec_syncTimerExpiry_not_due hk⟩,
    fun q => exec_recordAgeTick_not_due, fun h => ?frame, fun h => ?epoch, fun h => ?scheduled, exec_roundEpochRetry_not_due,
    exec_ampIsolationRequest_not_due, exec_pumpIsolationRequest_not_due, fun j h => ?step, fun h => ?interval, fun h => ?drive,
    exec_probeWindowExpiry_not_due, fun h => ?restore, exec_gapTimerExpiry_not_due,
    fun h => exec_port_inactive (s.portActive_eq_false_iff.2 h), fun h => ?recordTimer, fun h => ?absoluteTimer⟩
  case nothing => simp only [step, hempty, hwait]
  case sampleSet => simp only [idle, exec, execSampleSet, h]
  case frame => simp only [idle, exec, execFrameSnapshot, h]
  case epoch => simp only [idle, exec, execJudgementEpoch, h]
  case scheduled => simp only [idle, exec, execProbeEpochRetry, h, Bool.false_eq_true, if_false]
  case step => simp only [idle, exec, execStepTimerExpiry, h]
  case interval => simp only [idle, exec, execProbeIntervalExpiry, h]
  case drive => simp only [idle, exec, execProbeDriveRequest, h]
  case restore => simp only [idle, exec, execRestoreRequest, h]
  case recordTimer => simp only [idle, exec, execRecordTimerExpiry, h]
  case absoluteTimer => simp only [idle, exec, execAbsoluteTimerExpiry, h]

end Sys2Proof.Machine
end

section
/-! The directives RELEASE and REREFERENCE executed (O48, O49). -/

namespace Sys2Proof.Machine

/-! ### RELEASE (O48) -/

/-- The pumps and switches of a RELEASE, before the targets are recomputed (R145). -/
def Pbc.unisolated (p : Pbc) (c : Commissioning) : Pbc :=
  { p with
    bypass := p.bypass.map fun _ => false
    switches := p.switches.mapIdx fun a set => set && !p.bypass.getD a false
    pumps := p.pumps.mapIdx fun j x => x.released (c.pump j) }

theorem State.release_pbc (s : State) : s.release.pbc = (s.pbc.unisolated s.cfg).retarget s.cfg s.now := rfl

theorem Pump.released_of_low {x : Pump} (h : x.state = .floor ∨ x.state = .off) (k : PumpConfig) :
    x.released k = { x with state := .active, applied := k.floor, preProbe := none, latch := false } := by
  rcases h with h | h <;> (rw [Pump.released, h]; rfl)

theorem Pump.released_of_lit {x : Pump} (h : x.state = .active ∨ x.state = .probe) (k : PumpConfig) :
    x.released k = { x with latch := false } := by
  rcases h with h | h <;> rw [Pump.released, h]

theorem Pump.released_latch (k : PumpConfig) (x : Pump) : (x.released k).latch = false := by
  unfold Pump.released
  split <;> rfl

/-- After a RELEASE nothing is isolated (R145). -/
theorem State.release_isolating (s : State) : s.release.pbc.isolating = false := by
  rw [State.release_pbc, Pbc.retarget_isolating, ← Bool.not_eq_true, Pbc.isolating_iff]
  rintro (⟨a, ha⟩ | ⟨x, hx, -, hl⟩)
  · rw [Pbc.unisolated, List.getElem?_map, Option.map_eq_some_iff] at ha
    obtain ⟨-, -, hfalse⟩ := ha
    cases hfalse
  · obtain ⟨j, hj⟩ := List.mem_iff_getElem?.1 hx
    obtain ⟨y, -, rfl⟩ := getElem?_mapIdx_some.1 hj
    rw [Pump.released_latch] at hl
    cases hl

theorem State.release_marker {s : State} {x : Sending} (h : s.release.ttx = .sending x) : x.marker ≠ .isolated := by
  have hmarker : s.release.markerNow ≠ .isolated := by
    rw [State.markerNow, State.release_isolating, if_neg Bool.false_ne_true]
    split
    · exact fun h => nomatch h
    · split <;> exact fun h => nomatch h
  have httx : s.release.ttx = s.ttx.remark s.release.markerNow := rfl
  rw [httx] at h
  cases hs : s.ttx with
  | silent =>
    rw [hs] at h
    cases h
  | sending y =>
    rw [hs] at h
    cases h
    exact hmarker

/-- Settles O48: the latches of the table are those of the pumps and switches, so that what is released is cleared. -/
theorem releaseUndoesEveryIsolation : Obligations.ReleaseUndoesEveryIsolation := by
  rintro s ⟨hbypass, hlatches, -⟩ c t
  refine ⟨rfl, State.report_markerFollows rfl, fun x hx => State.release_marker hx, ?bypass, fun a x hx => ?switches,
    fun a e he => ?amps, fun j e he => ?pumps, fun j x hx => ?drives⟩
  case bypass => exact List.map_const' ..
  case switches =>
    have hget : s.pbc.bypass.getD a false = decide (s.pbc.bypass[a]? = some true) := by
      rw [List.getD_eq_getElem?_getD]
      cases s.pbc.bypass[a]? with
      | none => rfl
      | some b => cases b <;> rfl
    have hswitch : t.pbc.switches[a]? = some (x && !s.pbc.bypass.getD a false) := getElem?_mapIdx_some.2 ⟨x, hx, rfl⟩
    rw [hswitch, hget]
    by_cases hb : s.pbc.bypass[a]? = some true <;> simp [hb]
  case amps =>
    have hlatch : s.pbc.bypass.getD a false = e.latch := by
      rw [hbypass, List.getD_eq_getElem?_getD, List.getElem?_map, he]
      rfl
    refine getElem?_mapIdx_some.2 ⟨e, he, ?_⟩
    rw [hlatch]
    rfl
  case pumps =>
    have hlatch : s.pbc.pumps[j]?.any Pump.latch = e.latch := by
      have hj := congrArg (fun l => l[j]?) hlatches
      simp only [List.getElem?_map, he, Option.map_some, Option.map_eq_some_iff] at hj
      obtain ⟨x, hx, heq⟩ := hj
      rw [hx, ← heq]
      rfl
    refine getElem?_mapIdx_some.2 ⟨e, he, ?_⟩
    rw [hlatch]
    rfl
  case drives =>
    have hreleased : (s.pbc.unisolated c).pumps[j]? = some (x.released (c.pump j)) := getElem?_mapIdx_some.2 ⟨x, hx, rfl⟩
    obtain ⟨y, hy, hsteered⟩ := Pbc.retarget_steered (s.pbc.unisolated c) c s.now hreleased
    refine ⟨y, hy, fun h => ?_, fun h => ?_⟩
    · rw [Pump.released_of_low h] at hsteered
      exact hsteered
    · rw [Pump.released_of_lit h] at hsteered
      exact hsteered

/-! ### REREFERENCE (O49) -/

/-- The loss clamped to its range (R91). -/
theorem State.lossFrom_eq {s : State} {q a : Nat} {e : FrameAmp} (h : ampEntryAt s.records q a a = some e) :
    s.lossFrom q a = some (max (-1000) (min 6000 (e.sOut - s.lmu.sIn a))) := by
  rw [State.lossFrom, h]
  rfl

/-- What a REREFERENCE makes of the references of amplifier `a` (R171). -/
theorem State.renewed_spec (s : State) (a : Nat) (r : References) :
    let p := s.cfg.position
    (s.renewed a r).gref = s.gain a ∧ (s.renewed a r).oref = s.lmu.sOut a ∧
      (∀ e, s.basisOf a = .direct → ampEntryAt s.records (upstreamPos p a) a a = some e →
        (s.renewed a r).lref = max (-1000) (min 6000 (e.sOut - s.lmu.sIn a)) ∧ (s.renewed a r).lskip = r.lskip) ∧
      (∀ e, s.basisOf a = .bridged → ampEntryAt s.records (upstream2Pos p a) a a = some e →
        (s.renewed a r).lref = r.lref ∧ (s.renewed a r).lskip = max (-1000) (min 6000 (e.sOut - s.lmu.sIn a))) ∧
      (s.basisOf a = .skipped ∨ s.basisOf a = .none → (s.renewed a r).lref = r.lref ∧ (s.renewed a r).lskip = r.lskip) := by
  refine ⟨rfl, rfl, fun e hb he => ?_, fun e hb he => ?_, fun hb => ?_⟩
  · have hloss : s.spanLoss a = some (max (-1000) (min 6000 (e.sOut - s.lmu.sIn a))) := by
      rw [State.spanLoss, hb]
      exact State.lossFrom_eq he
    simp [State.renewed, hb, hloss]
  · have hloss : s.spanLoss a = some (max (-1000) (min 6000 (e.sOut - s.lmu.sIn a))) := by
      rw [State.spanLoss, hb]
      exact State.lossFrom_eq he
    simp [State.renewed, hb, hloss]
  · rcases hb with hb | hb <;> simp [State.renewed, hb]

/-- The since of an entry that becomes CLEAR (R125). -/
theorem sinceOf_clear (clock since : Nat) (before : Suspicion) :
    sinceOf clock since before .clear = if before = .clear then since else clock := by
  unfold sinceOf
  cases before <;> rfl

theorem AmpEntry.cleared_eq (clock : Nat) (e : AmpEntry) :
    e.cleared clock =
      if e.latch then e
      else { e with score := 0, state := .clear, kind := .none, since := if e.state = .clear then e.since else clock } := by
  rw [AmpEntry.cleared, sinceOf_clear]

theorem PumpEntry.cleared_eq (clock : Nat) (e : PumpEntry) :
    e.cleared clock =
      if e.latch then { e with deficient := false }
      else { e with score := 0, state := .clear, kind := .none, since := if e.state = .clear then e.since else clock,
                    deficient := false } := by
  rw [PumpEntry.cleared, sinceOf_clear]

theorem SpanEntry.cleared_eq (clock : Nat) (e : SpanEntry) :
    e.cleared clock =
      { e with score := 0, state := .clear, kind := .none, since := if e.state = .clear then e.since else clock } := by
  rw [SpanEntry.cleared, sinceOf_clear]

/-- Settles O49: the references from the present values, and the table cleared entry by entry. -/
theorem rereferenceRenewsTheReferences : Obligations.RereferenceRenewsTheReferences := by
  intro s t entry loss since
  have hentry (q a : Nat) : entry q a = ampEntryAt s.records q a a := by
    cases hr : findRecord s.records q with
    | none =>
      rw [ampEntryAt_of_no_record hr]
      simp only [entry]
      rw [show s.records.find? (fun r => r.origin == q) = none from hr]
    | some r =>
      simp only [entry]
      rw [show s.records.find? (fun r => r.origin == q) = some r from hr]
      dsimp only
      cases hc : r.contents with
      | none => rw [ampEntryAt_of_no_contents hr hc]
      | some f => rw [ampEntryAt_of_contents hr hc]; rfl
  refine ⟨rfl, State.report_markerFollows rfl, fun a r hr => ⟨s.renewed a r, getElem?_mapIdx_some.2 ⟨r, hr, rfl⟩, ?refs⟩,
    fun a e he => ?spans, fun a e he => ?amps, fun j e he => ?pumps⟩
  case refs =>
    obtain ⟨hgref, horef, hdirect, hbridged, hkept⟩ := s.renewed_spec a r
    refine ⟨hgref, horef, fun e hb he => hdirect e hb ?_, fun e hb he => hbridged e hb ?_, hkept⟩
    · rw [hentry] at he
      exact he
    · rw [hentry] at he
      exact he
  case spans =>
    refine getElem?_mapIdx_some.2 ⟨e, he, ?_⟩
    rw [SpanEntry.cleared_eq]
    simp only [Lmu.isDark_iff]
    rfl
  case amps =>
    have h : t.flt.amps[a]? = (s.flt.amps[a]?).map (AmpEntry.cleared s.cfl.clock) := List.getElem?_map
    rw [h, he, Option.map_some, AmpEntry.cleared_eq]
  case pumps =>
    have h : t.flt.pumps[j]? = (s.flt.pumps[j]?).map (PumpEntry.cleared s.cfl.clock) := List.getElem?_map
    rw [h, he, Option.map_some, PumpEntry.cleared_eq]

end Sys2Proof.Machine
end

section
/-! The directive RESTART executed (O50): what each block keeps and takes afresh, and the frames that the restart cuts. -/

namespace Sys2Proof.Machine

/-! ### The frames cut (R64) -/

theorem RxBank.mem_readings {b : Bank} {x : RxBank} {f : CutFrame} :
    f ∈ x.readings b ↔
      f.bank = b ∧ x.state = .running ∧ ∃ k, x.trackers[f.tracker]? = some k ∧ k.reception = .reading ∧ k.ahead = f.ahead := by
  unfold RxBank.readings
  by_cases hrun : x.state = .running
  · rw [if_pos hrun, List.mem_filterMap]
    constructor
    · rintro ⟨i, -, hf⟩
      cases hk : x.trackers[i]? with
      | none => simp [hk] at hf
      | some k =>
        simp only [hk] at hf
        split at hf
        · next hread =>
          cases hf
          exact ⟨rfl, hrun, k, hk, hread, rfl⟩
        · cases hf
    · rintro ⟨rfl, -, k, hk, hread, hahead⟩
      refine ⟨f.tracker, List.mem_range.2 (List.getElem?_eq_some_iff.1 hk).1, ?_⟩
      simp only [hk]
      rw [if_pos hread, hahead]
  · rw [if_neg hrun]
    exact iff_of_false List.not_mem_nil fun h => hrun h.2.1

/-- The frames that a warm restart of `s` cuts. -/
def State.cutFrames (s : State) : List CutFrame := s.rbe.readings .e ++ s.rbw.readings .w

theorem State.mem_cutFrames {s : State} {b : Bank} {i : Nat} {ahead : List Bool} :
    ⟨b, i, ahead⟩ ∈ s.cutFrames ↔
      (s.bank b).state = .running ∧ ∃ k, (s.bank b).trackers[i]? = some k ∧ k.reception = .reading ∧ k.ahead = ahead := by
  rw [State.cutFrames, List.mem_append, RxBank.mem_readings, RxBank.mem_readings]
  cases b <;> simp [State.bank]

/-- The bits at hand of a frame that the restart of this moment has cut (R64). -/
theorem State.cutAt_of_reading {s t : State} {b : Bank} {i : Nat} {k : Tracker}
    (ht : t.restarted = some ⟨t.now, s.cutFrames⟩) (hnow : (t.bank b).state = .running) (hrun : (s.bank b).state = .running)
    (hk : (s.bank b).trackers[i]? = some k) (hread : k.reception = .reading) : t.cutAt b i = some k.ahead := by
  have hcut : t.cutAt b i = (s.cutFrames.find? fun x => x.bank == b && x.tracker == i).map CutFrame.ahead := by
    rw [State.cutAt, ht]
    exact if_pos ⟨rfl, hnow⟩
  rw [hcut]
  cases hfind : s.cutFrames.find? fun x => x.bank == b && x.tracker == i with
  | none =>
    have hnone := List.find?_eq_none.1 hfind ⟨b, i, k.ahead⟩ (State.mem_cutFrames.2 ⟨hrun, k, hk, hread, rfl⟩)
    simp at hnone
  | some x =>
    have hx := List.find?_some hfind
    simp only [Bool.and_eq_true, beq_iff_eq] at hx
    obtain ⟨hb, hi⟩ := hx
    obtain ⟨x, j, ahead⟩ := x
    cases hb
    cases hi
    obtain ⟨-, k', hk', -, hahead⟩ := State.mem_cutFrames.1 (List.mem_of_find?_eq_some hfind)
    cases hk.symm.trans hk'
    rw [Option.map_some, hahead]

theorem exec_frameChecked_cut {s : State} {b : Bank} {i q : Nat} {k : Tracker} {ahead : List Bool}
    (hk : (s.bank b).trackers[i]? = some k) (hread : k.reception ≠ .reading) (hpos : k.pos = some q)
    (hcut : s.cutAt b i = some ahead) (bits : List Bool) :
    exec (.frameChecked b i bits) s = .next (s.takeCut b i q (ahead ++ bits)) := by
  cases hr : k.reception with
  | reading => exact absurd hr hread
  | hunting => simp only [exec, execFrameChecked, hk, hpos, hr, hcut]
  | expecting => simp only [exec, execFrameChecked, hk, hpos, hr, hcut]

/-! ### The second RESTART of a moment (R64) -/

/-- R62: the filter passes a directive from the authorised terminal whose entry passes it. -/
theorem State.passes_iff {s : State} (hne : s.cfg.west ≠ s.cfg.east) (q : Nat) (d : Directive) :
    s.passes q d = true ↔
      q = s.cfg.west ∧ s.filter.west.passes s.cfg.position d = true ∨
        q = s.cfg.east ∧ s.filter.east.passes s.cfg.position d = true := by
  unfold State.passes
  by_cases hw : q = s.cfg.west
  · rw [if_pos hw]
    simp [hw, hne]
  · rw [if_neg hw]
    by_cases he : q = s.cfg.east
    · rw [if_pos he]
      exact (or_iff_right fun h => hw h.1).trans (and_iff_right he) |>.symm
    · rw [if_neg he]
      exact iff_of_false Bool.false_ne_true fun h => h.elim (fun h => hw h.1) fun h => he h.1

/-- A RESTART that the filter passes: the entry of its origin takes the id, and the station restarts (R62, R64). -/
theorem State.filterDirective_restart {u : State} {q : Nat} {d : Directive} (hne : u.cfg.west ≠ u.cfg.east)
    (hkind : d.kind = .restart) (h : u.passes q d = true) :
    u.filterDirective q d =
      State.execute
        { u with
          filter := if q = u.cfg.west then { u.filter with west := ⟨.settled, some d.id⟩ }
                    else { u.filter with east := ⟨.settled, some d.id⟩ } }
        .restart := by
  rcases (State.passes_iff hne q d).1 h with ⟨rfl, hp⟩ | ⟨rfl, hp⟩
  · rw [State.filterDirective_west, if_pos hp, hkind, if_pos rfl]
  · rw [State.filterDirective_east d hne, if_pos hp, hkind, if_neg hne.symm]

theorem State.takeCut_of_restart {s : State} {b : Bank} {i q : Nat} {stream : List Bool} {f : Frame} {d : Directive}
    (hf : acceptFrame q stream = some f) (hd : f.directive = some d) (hkind : d.kind = .restart) (h : s.passes q d = true) :
    s.takeCut b i q stream = s.takeSecond b i stream f (Config.restartsTogether s.spare) := by
  have hrestarts : s.restarts f = true := by
    rw [State.restarts, hd, acceptFrame_origin hf]
    dsimp only
    rw [hkind, h]
    rfl
  rw [State.takeCut, hf]
  exact if_pos hrestarts

theorem State.takeSecond_alone (s : State) (b : Bank) (i : Nat) (stream : List Bool) (f : Frame) :
    s.takeSecond b i stream f false = (s.settleCut b i).spend := rfl

theorem State.takeSecond_together (s : State) (b : Bank) (i : Nat) (stream : List Bool) {f : Frame} {d : Directive}
    (hd : f.directive = some d) :
    s.takeSecond b i stream f true = (State.received (s.settleCut b i).spend b i stream f).filterDirective f.origin d := by
  have h : s.takeSecond b i stream f true =
      ((s.settleCut b i).spend.onTracker b i (Tracker.lock s.now (afterFrame stream))).deliver f := rfl
  rw [h, State.deliver, hd]
  rfl

/-! ### What each block takes afresh (R47, R66, R127, R148) -/

/-- Latched and remapped pumps keep their drive (R148). -/
theorem Pump.warm_of_low {x : Pump} (h : x.state = .floor ∨ x.state = .off) (k : PumpConfig) :
    x.warm k = { x with step := none } := by
  rcases h with h | h <;> rw [Pump.warm, h]

theorem Pump.warm_of_active {x : Pump} (h : x.state = .active) (k : PumpConfig) :
    x.warm k = { x with applied := if k.retain then x.applied else k.base, step := none } := by
  rw [Pump.warm, h]

theorem Pump.warm_of_probe {x : Pump} (h : x.state = .probe) (k : PumpConfig) :
    x.warm k = { x with state := .active, applied := if k.retain then x.preProbe.getD x.applied else k.base,
                        preProbe := none, step := none } := by
  rw [Pump.warm, h]

/-- The span entries of a warm restart (R127, R109). -/
theorem SpanEntry.warm_eq (clock : Nat) (dark : Bool) (e : SpanEntry) :
    (if dark then SpanEntry.declareDark clock { SpanEntry.cleared clock e with basis := .none }
      else { SpanEntry.cleared clock e with basis := .none }) =
      if dark then ⟨255, .faulty, .lossOfLight, clock, .none⟩
      else ⟨0, .clear, .none, if e.state = .clear then e.since else clock, .none⟩ := by
  rw [SpanEntry.cleared_eq]
  cases dark <;> rfl

theorem AmpEntry.warm_eq (clock : Nat) (low : Bool) (e : AmpEntry) :
    { (AmpEntry.cleared clock e).restored with inputLow := low } =
      if e.latch then { e with state := .faulty, score := 255, inputLow := low }
      else { e with score := 0, state := .clear, kind := .none, since := if e.state = .clear then e.since else clock,
                    inputLow := low } := by
  rw [AmpEntry.cleared_eq]
  unfold AmpEntry.restored
  cases hl : e.latch <;> simp [hl, Config.scoreMax]

theorem PumpEntry.warm_eq (clock : Nat) (e : PumpEntry) :
    (PumpEntry.cleared clock e).restored =
      if e.latch then { e with state := .faulty, score := 255, deficient := false }
      else { e with score := 0, state := .clear, kind := .none, since := if e.state = .clear then e.since else clock,
                    deficient := false } := by
  rw [PumpEntry.cleared_eq]
  unfold PumpEntry.restored
  cases e.latch <;> simp [Config.scoreMax]

theorem Tracker.warm_eq (k : Tracker) :
    k.warm =
      if k.kind = some .pinned then
        { k with state := .acquiring, failed := 0, sync := none, reception := .hunting, ahead := [] }
      else { k with state := .idle, pos := none, failed := 0, sync := none, reception := .hunting, ahead := [] } := by
  unfold Tracker.warm
  split
  · next h => rw [if_pos h]; rfl
  · next h => rw [if_neg h]; rfl

/-- An IDLE bank keeps all but its trackers (R47). -/
theorem RxBank.warm_of_idle {x : RxBank} (h : x.state = .idle) (c : Commissioning) (b : Bank) (now : Moment) (l : Lmu) :
    x.warm c b now l = { x with trackers := x.trackers.map Tracker.warm } := if_pos h

theorem RxBank.warm_of_dark {x : RxBank} (h : x.state ≠ .idle) {c : Commissioning} {b : Bank} {l : Lmu}
    (hd : l.isDark (c.supAmp b) = true) (now : Moment) :
    x.warm c b now l =
      { state := .darkWatch, map := (sidePositions c.position b).map fun q => ⟨q, .silent, none, 0, true⟩,
        sweep := x.sweep, dwell := none, confirm := none, trackers := x.trackers.map Tracker.warm } := by
  rw [RxBank.warm, if_neg h, hd, RxBank.fromClass, if_pos rfl, List.map_map]
  rfl

theorem RxBank.warm_of_lit {x : RxBank} (h : x.state ≠ .idle) {c : Commissioning} {b : Bank} {l : Lmu}
    (hd : l.isDark (c.supAmp b) = false) (now : Moment) :
    x.warm c b now l =
      { state := .running, map := (sidePositions c.position b).map fun q => ⟨q, .silent, none, 0, false⟩,
        sweep := min (x.sweep + 1) (2 ^ 32 - 1), dwell := (sidePositions c.position b).head?.map fun q => ⟨q, now + 50⟩,
        confirm := none, trackers := x.trackers.map Tracker.warm } := by
  rw [RxBank.warm, if_neg h, hd, RxBank.fromClass, if_neg Bool.false_ne_true]
  rfl

/-- The records of the pinned positions after a warm restart (R83). -/
theorem RxBank.warm_pinnedRecords (c : Commissioning) (b : Bank) (now : Moment) (l : Lmu) (x : RxBank) :
    (x.warm c b now l).pinnedRecords now b =
      x.trackers.filterMap fun k => if k.kind = some .pinned then k.pos.map (Neighbour.vacant now b) else none := by
  rw [RxBank.pinnedRecords, RxBank.warm_trackers, List.filterMap_map]
  refine List.filterMap_congr fun k _ => ?_
  dsimp only [Function.comp]
  rw [Tracker.warm_kind, Tracker.warm_pos]
  split <;> rfl

/-! ### The restart (O50) -/

section
variable (s : State)

theorem State.warmRestart_pumps {j : Nat} {x : Pump} (hx : s.pbc.pumps[j]? = some x) :
    ∃ y, s.warmRestart.pbc.pumps[j]? = some y ∧
      Steered (s.cfg.pump j) s.now (targetSum s.cfg s.warmRestart.pbc j) (x.warm (s.cfg.pump j)) y := by
  refine Pbc.retarget_steered _ s.cfg s.now ?_
  exact getElem?_mapIdx_some.2 ⟨x, hx, rfl⟩

/-- The FLT's own restart, in which the settle times of a probe that ends have been set (R99, R127). -/
theorem State.warmRestart_flt :
    s.warmRestart.flt =
      { Flt.warm s.cfl.clock s.now s.lmu s.flt with
        settle := match s.pru.current with
          | some pr => (s.flt.startSettle s.cfg s.now pr.pump).settle
          | none => s.flt.settle } := by
  have h : s.warmRestart.flt = Flt.warm s.cfl.clock s.now s.lmu (match s.pru.current with
    | some pr => s.flt.startSettle s.cfg s.now pr.pump
    | none => s.flt) := rfl
  rw [h]
  cases s.pru.current <;> rfl

theorem State.warmRestart_settle_idle (h : s.pru.state = .idle) : s.warmRestart.flt.settle = s.flt.settle := by
  have hnone : s.pru.current = none := by rw [Pru.current, h]
  rw [State.warmRestart_flt, hnone]

theorem State.warmRestart_settle {pr : Probe} (h : s.pru.state = .starting pr ∨ ∃ w, s.pru.state = .probing pr w) :
    SettleStarted s s.warmRestart pr.pump (s.now + 1000 * s.cfg.window) := by
  have hcurrent : s.pru.current = some pr := by
    rcases h with h | ⟨w, h⟩ <;> rw [Pru.current, h]
  refine SettleStarted.of_startSettle ?_
  rw [State.warmRestart_flt, hcurrent]

theorem State.warmRestart_spans {a : Nat} {e : SpanEntry} (he : s.flt.spans[a]? = some e) :
    s.warmRestart.flt.spans[a]? =
      some (if s.lmu.isDark a then ⟨255, .faulty, .lossOfLight, s.cfl.clock, .none⟩
            else ⟨0, .clear, .none, if e.state = .clear then e.since else s.cfl.clock, .none⟩) := by
  rw [State.warmRestart_flt, ← SpanEntry.warm_eq]
  refine getElem?_mapIdx_some.2 ⟨_, ?_, rfl⟩
  exact (List.getElem?_map ..).trans (congrArg _ he)

theorem State.warmRestart_amps {a : Nat} {e : AmpEntry} (he : s.flt.amps[a]? = some e) :
    s.warmRestart.flt.amps[a]? =
      some { (AmpEntry.cleared s.cfl.clock e).restored with inputLow := s.lmu.isLow a } := by
  rw [State.warmRestart_flt]
  refine getElem?_mapIdx_some.2 ⟨_, ?_, rfl⟩
  exact (List.getElem?_map ..).trans (congrArg _ he)

theorem State.warmRestart_pumpEntries {j : Nat} {e : PumpEntry} (he : s.flt.pumps[j]? = some e) :
    s.warmRestart.flt.pumps[j]? = some (PumpEntry.cleared s.cfl.clock e).restored := by
  rw [State.warmRestart_flt]
  exact (List.getElem?_map ..).trans (congrArg _ he)

theorem State.warmRestart_tracker {b : Bank} {i : Nat} {k : Tracker} (hk : (s.bank b).trackers[i]? = some k) :
    (s.warmRestart.bank b).trackers[i]? = some k.warm := by
  rw [State.warmRestart_bank, RxBank.warm_trackers, List.getElem?_map, hk]
  rfl

/-- A RESTART, in a frame of `q` whose entry of the filter passes it (R62). -/
def SecondRestart (q : Nat) (stream : List Bool) (f : Frame) (d : Directive) : Prop :=
  acceptFrame q stream = some f ∧ f.directive = some d ∧ d.kind = .restart ∧ s.passes q d = true

section
variable {s} {b : Bank} {i q : Nat} {k : Tracker} {bits : List Bool}

theorem exec_frameChecked_warm (hk : (s.bank b).trackers[i]? = some k) (hrun : (s.bank b).state = .running)
    (hkind : k.kind = some .pinned) (hread : k.reception = .reading) (hpos : k.pos = some q) :
    ((s.warmRestart.bank b).state ≠ .running → exec (.frameChecked b i bits) s.warmRestart = .next s.warmRestart) ∧
      ((s.warmRestart.bank b).state = .running →
        exec (.frameChecked b i bits) s.warmRestart = .next (s.warmRestart.takeCut b i q (k.ahead ++ bits))) := by
  have hk' := s.warmRestart_tracker hk
  have hhunts : k.warm.reception ≠ .reading := by
    rw [Tracker.warm_eq, if_pos hkind]
    exact fun h => nomatch h
  have hpos' : k.warm.pos = some q := by rw [Tracker.warm_pos, if_pos hkind, hpos]
  exact ⟨fun h => exec_frameChecked_not_reading hk' hhunts (State.cutAt_eq_none (.inr h)) bits,
    fun h => exec_frameChecked_cut hk' hhunts hpos' (State.cutAt_of_reading rfl h hrun hk hread) bits⟩

/-- A frame cut by the restart, and no RESTART that the filter passes, is abandoned (R64). -/
theorem exec_frameChecked_abandoned (hk : (s.bank b).trackers[i]? = some k) (hrun : (s.bank b).state = .running)
    (hkind : k.kind = some .pinned) (hread : k.reception = .reading) (hpos : k.pos = some q)
    (h : ∀ f d, ¬ SecondRestart s q (k.ahead ++ bits) f d) :
    exec (.frameChecked b i bits) s.warmRestart = .next s.warmRestart := by
  obtain ⟨hdark, hlit⟩ := exec_frameChecked_warm (bits := bits) hk hrun hkind hread hpos
  by_cases hnow : (s.warmRestart.bank b).state = .running
  · rw [hlit hnow]
    rcases s.warmRestart.takeCut_cases b i q (k.ahead ++ bits) with heq | ⟨f, d, hf, hd, hrestart, hpasses, -⟩
    · rw [heq]
    · rw [acceptFrame_origin hf] at hpasses
      exact absurd ⟨hf, hd, hrestart, hpasses⟩ (h f d)
  · exact hdark hnow

/-- The state in which a cut frame is settled, a free value having been taken (R64, log entry 28). -/
def State.settledCut (s : State) (b : Bank) (i : Nat) : State :=
  { s.warmRestart with
    spare := s.warmRestart.spare + 1
    restarted := some ⟨s.now, s.cutFrames.filter fun x => decide (¬ (x.bank = b ∧ x.tracker = i))⟩ }

theorem State.settleCut_warmRestart (s : State) (b : Bank) (i : Nat) :
    (s.warmRestart.settleCut b i).spend = s.settledCut b i := by
  have hcut : (s.cutFrames.filter fun x => !(x.bank == b && x.tracker == i)) =
      s.cutFrames.filter fun x => decide (¬ (x.bank = b ∧ x.tracker = i)) := by
    refine List.filter_congr fun x _ => ?_
    rw [Bool.eq_iff_iff]
    simp
  rw [State.settledCut, ← hcut]
  rfl

theorem exec_frameChecked_second {f : Frame} {d : Directive} (hk : (s.bank b).trackers[i]? = some k)
    (hrun : (s.bank b).state = .running) (hkind : k.kind = some .pinned) (hread : k.reception = .reading)
    (hpos : k.pos = some q) (hne : s.cfg.west ≠ s.cfg.east) (h : SecondRestart s q (k.ahead ++ bits) f d)
    (hnow : (s.warmRestart.bank b).state = .running) :
    (Config.restartsTogether s.warmRestart.spare = false →
        exec (.frameChecked b i bits) s.warmRestart = .next (s.settledCut b i)) ∧
      (Config.restartsTogether s.warmRestart.spare = true →
        exec (.frameChecked b i bits) s.warmRestart =
          .next (State.execute
            { (s.settledCut b i).received b i (k.ahead ++ bits) f with
              filter := if q = s.cfg.west then { s.filter with west := ⟨.settled, some d.id⟩ }
                        else { s.filter with east := ⟨.settled, some d.id⟩ } }
            .restart)) := by
  obtain ⟨hf, hd, hrestart, hpasses⟩ := h
  have hexec : exec (.frameChecked b i bits) s.warmRestart = .next
      (s.warmRestart.takeSecond b i (k.ahead ++ bits) f (Config.restartsTogether s.warmRestart.spare)) := by
    rw [(exec_frameChecked_warm hk hrun hkind hread hpos).2 hnow]
    exact congrArg _ (State.takeCut_of_restart hf hd hrestart hpasses)
  refine ⟨fun halone => ?_, fun htogether => ?_⟩
  · rw [hexec, halone, State.takeSecond_alone, State.settleCut_warmRestart]
  · let u := (s.settledCut b i).received b i (k.ahead ++ bits) f
    have hcfg : u.cfg = s.cfg := State.received_cfg ..
    have hfilter : u.filter = s.filter := State.received_filter ..
    have hpasses' : u.passes q d = true := by
      rw [State.passes, hcfg, hfilter]
      exact hpasses
    have hu := State.filterDirective_restart (u := u) (hcfg ▸ hne) hrestart hpasses'
    rw [hcfg, hfilter] at hu
    rw [hexec, htogether, State.takeSecond_together _ _ _ _ hd, State.settleCut_warmRestart, acceptFrame_origin hf]
    exact congrArg _ hu

end
end

/-- Settles O50: block by block, and the frames cut by what `takeCut` does with them. -/
theorem restartKeepsAndResets : Obligations.RestartKeepsAndResets := by
  intro s c t clearedSince side vacants
  have hside (b : Bank) : sidePositions c.position b = side b :=
    (sidePositions_eq _ b).trans (by cases b <;> rfl)
  have hbank (b : Bank) : t.bank b = (s.bank b).warm c b s.now s.lmu := s.warmRestart_bank b
  have hvacants (b : Bank) : ((s.bank b).warm c b s.now s.lmu).pinnedRecords s.now b = vacants b :=
    RxBank.warm_pinnedRecords ..
  refine ⟨rfl, State.report_markerFollows rfl, rfl, rfl, rfl, rfl, rfl, rfl, fun j x hx => ?pumps, ?epoch, ?refs, ?quiet,
    s.warmRestart_settle_idle, fun pr => s.warmRestart_settle, fun a e he => ?spans, fun a e he => ?amps, fun j e he => ?entries,
    fun b hb => ?idleBank, fun b hb => ⟨fun hd => ?darkBank, fun hd => ?litBank⟩, fun b i k hk => ?trackers, ?records,
    s.cutFrames, rfl, fun b i ahead => State.mem_cutFrames, fun b i q k bits hk hrun hkind hread hpos hne => ?second⟩
  case pumps =>
    intro steered
    obtain ⟨y, hy, hsteered⟩ := s.warmRestart_pumps hx
    refine ⟨y, hy, fun h => ?_, fun h => ?_, fun h => ?_, fun d h hd => ?_⟩
    · rw [Pump.warm_of_low h] at hsteered
      exact hsteered
    · rw [Pump.warm_of_active h] at hsteered
      exact hsteered
    · rw [Pump.warm_of_probe h] at hsteered
      obtain ⟨hstate, hlatch, hpre, htarget, -⟩ := hsteered
      exact ⟨hstate, hlatch, hpre, htarget⟩
    · rw [Pump.warm_of_probe h, hd] at hsteered
      exact hsteered
  case epoch => exact (congrArg Flt.epoch s.warmRestart_flt).trans rfl
  case refs => exact (congrArg Flt.refs s.warmRestart_flt).trans rfl
  case quiet => exact (congrArg Flt.quiet s.warmRestart_flt).trans rfl
  case spans =>
    refine (s.warmRestart_spans he).trans ?_
    simp only [Lmu.isDark_iff]
    rfl
  case amps => exact (s.warmRestart_amps he).trans (congrArg some (AmpEntry.warm_eq ..))
  case entries => exact (s.warmRestart_pumpEntries he).trans (congrArg some (PumpEntry.warm_eq ..))
  case idleBank => rw [hbank, RxBank.warm_of_idle hb]
  case darkBank =>
    rw [hbank, RxBank.warm_of_dark hb ((s.lmu.isDark_iff _).2 hd), hside]
  case litBank =>
    have hlit : s.lmu.isDark (c.supAmp b) = false := by
      rw [← Bool.not_eq_true, Lmu.isDark_iff]
      exact hd
    rw [hbank, RxBank.warm_of_lit hb hlit, hside]
  case trackers => exact (s.warmRestart_tracker hk).trans (congrArg some k.warm_eq)
  case records =>
    rw [← hvacants, ← hvacants]
    rfl
  case second =>
    intro stream executes second settled
    have hexecutes (e : FilterEntry) (d : Directive) (hrestart : d.kind = .restart) :
        e.passes c.position d = true ↔ executes e d := by
      rw [FilterEntry.passes_iff, hrestart]
      exact and_congr_right fun _ => and_congr_right fun _ =>
        ⟨fun ⟨_, ht⟩ => ⟨hrestart, ht⟩, fun ⟨_, ht⟩ => ⟨by decide, ht⟩⟩
    have hsecond (f : Frame) (d : Directive) : SecondRestart s q stream f d ↔ second f d := by
      refine and_congr_right fun _ => and_congr_right fun _ => ?_
      rw [State.passes_iff hne]
      constructor
      · rintro ⟨hrestart, h⟩
        exact h.imp (And.imp_right (hexecutes _ d hrestart).1) (And.imp_right (hexecutes _ d hrestart).1)
      · intro h
        have hrestart : d.kind = .restart := by
          rcases h with ⟨-, -, -, h, -⟩ | ⟨-, -, -, h, -⟩ <;> exact h
        exact ⟨hrestart, h.imp (And.imp_right (hexecutes _ d hrestart).2) (And.imp_right (hexecutes _ d hrestart).2)⟩
    exact ⟨fun h => exec_frameChecked_abandoned hk hrun hkind hread hpos fun f d hfd => h f d ((hsecond f d).1 hfd),
      (exec_frameChecked_warm hk hrun hkind hread hpos).1, fun f d hfd hnow =>
        exec_frameChecked_second hk hrun hkind hread hpos hne ((hsecond f d).2 hfd) hnow⟩

end Sys2Proof.Machine
end

section
/-! The capture policy run to its end (O20): each position is captured or released at most once, and at the end every capture is
nearer than every eligible position that is free. -/

namespace Sys2Proof.Machine

section
variable {x y : RxBank} {c : Commissioning} {b : Bank} {i q far : Nat} {steps : List CaptureStep}

/-! ### What a step captures -/

theorem RxBank.assignAt_isCaptured (hs : ∀ k ∈ x.trackers, k.sound) (hi : x.idleCapture = some i) (r : Nat) :
    (x.assignAt i q).isCaptured r = true ↔ r = q ∨ x.isCaptured r = true := by
  obtain ⟨k, hk, hkind, hidle⟩ := RxBank.idleCapture_spec hi
  have hpos := (hs k (List.mem_of_getElem? hk)).pos_of_idle hidle
  have hperm : (x.assignAt i q).captures.Perm (q :: x.captures) :=
    filterMap_modify_perm hk ((if_pos hkind).trans hpos) (if_pos hkind)
  rw [← RxBank.mem_captures, hperm.mem_iff, List.mem_cons, RxBank.mem_captures]

theorem RxBank.evictFor_isCaptured (hfar : x.isCaptured far = true) (r : Nat) :
    (x.evictFor far q).isCaptured r = true ↔ r = q ∨ x.isCaptured r = true ∧ r ≠ far := by
  rw [RxBank.isCaptured_iff]
  constructor
  · rintro ⟨k, hk, hkind, hpos⟩
    obtain ⟨k', hk', rfl⟩ := List.mem_map.1 hk
    split at hpos
    · exact .inl (Option.some_inj.1 hpos).symm
    · next hn =>
      rw [if_neg hn] at hkind
      exact .inr ⟨RxBank.isCaptured_iff.2 ⟨k', hk', hkind, hpos⟩, fun h => hn ⟨hkind, h ▸ hpos⟩⟩
  · rintro (rfl | ⟨hr, hne⟩)
    · obtain ⟨k, hk, hkind, hpos⟩ := RxBank.isCaptured_iff.1 hfar
      exact ⟨k.assign r, List.mem_map.2 ⟨k, hk, if_pos ⟨hkind, hpos⟩⟩, hkind, rfl⟩
    · obtain ⟨k, hk, hkind, hpos⟩ := RxBank.isCaptured_iff.1 hr
      exact ⟨k, List.mem_map.2 ⟨k, hk, if_neg fun h => hne (Option.some_inj.1 (hpos.symm.trans h.2))⟩, hkind, hpos⟩

theorem RxBank.freeOf_isCaptured (r : Nat) : (x.freeOf q).isCaptured r = true ↔ x.isCaptured r = true ∧ r ≠ q := by
  rw [RxBank.isCaptured_iff]
  constructor
  · rintro ⟨k, hk, hkind, hpos⟩
    obtain ⟨k', hk', rfl⟩ := List.mem_map.1 hk
    split at hpos
    · cases hpos
    · next hn =>
      rw [if_neg hn] at hkind
      exact ⟨RxBank.isCaptured_iff.2 ⟨k', hk', hkind, hpos⟩, fun h => hn ⟨hkind, h ▸ hpos⟩⟩
  · rintro ⟨hr, hne⟩
    obtain ⟨k, hk, hkind, hpos⟩ := RxBank.isCaptured_iff.1 hr
    exact ⟨k, List.mem_map.2 ⟨k, hk, if_neg fun h => hne (Option.some_inj.1 (hpos.symm.trans h.2))⟩, hkind, hpos⟩

/-- An eviction frees no tracker. -/
theorem RxBank.evictFor_idleCapture (h : x.idleCapture = none) : (x.evictFor far q).idleCapture = none := by
  rw [RxBank.idleCapture_eq_none] at h ⊢
  refine forall_mem_map h fun k hk hkind => ?_
  split at hkind
  · next hc => rw [if_pos hc]; rfl
  · next hn => rw [if_neg hn]; exact hk hkind

/-! ### Each position is captured or released at most once -/

/-- A capture as near as every free eligible position stays. -/
theorem Captures.stays (h : Captures c x steps y) (hmap : x.map.map MapEntry.pos = sidePositions c.position b)
    (hx : x.distinct c.position b) {r : Nat} (hr : x.isCaptured r = true)
    (hnear : ∀ z ∈ x.map.map MapEntry.pos, x.eligible c z = true → x.isCaptured z = false →
      distance c.position r ≤ distance c.position z) :
    y.isCaptured r = true ∧ .removed r ∉ steps := by
  induction h with
  | done => exact ⟨hr, List.not_mem_nil⟩
  | @fill x y i q steps hi hq _ ih =>
    obtain ⟨hmem, he, hc, -⟩ := RxBank.nearestFree_spec hq
    have hcap := RxBank.assignAt_isCaptured (q := q) hx.2.2 hi
    obtain ⟨hy, hkept⟩ := ih hmap (hx.assignAt hi he hc (hmap ▸ hmem)) ((hcap r).2 (.inr hr)) fun z hz hez hfree => by
      rw [(RxBank.assignAt_capturesOnly hi).eligible] at hez
      refine hnear z hz hez ?_
      rw [← Bool.not_eq_true] at hfree ⊢
      exact fun h => hfree ((hcap z).2 (.inr h))
    exact ⟨hy, by simpa using hkept⟩
  | @evict x y q far steps _ hq hfar hlt _ ih =>
    obtain ⟨hmem, he, hc, -⟩ := RxBank.nearestFree_spec hq
    have hcapfar := (RxBank.farthestCapture_spec hfar).1
    have hcap := RxBank.evictFor_isCaptured (q := q) hcapfar
    have hrq := hnear q hmem he hc
    have hne : r ≠ far := fun h => by subst h; omega
    obtain ⟨hy, hkept⟩ := ih hmap (hx.evictFor hcapfar he hc (hmap ▸ hmem)) ((hcap r).2 (.inr ⟨hr, hne⟩))
      fun z hz hez hfree => by
        rw [x.evictFor_capturesOnly.eligible] at hez
        rw [← Bool.not_eq_true, hcap] at hfree
        by_cases hzf : z = far
        · subst hzf
          omega
        · exact hnear z hz hez (Bool.eq_false_iff.2 fun h => hfree (.inr ⟨h, hzf⟩))
    exact ⟨hy, by simpa [hne] using hkept⟩

/-- With no tracker IDLE, a position that no capture is farther than is not captured. -/
theorem Captures.left (h : Captures c x steps y) (hidle : x.idleCapture = none) {r : Nat} (hr : x.isCaptured r = false)
    (hfarther : ∀ z, x.isCaptured z = true → distance c.position z ≤ distance c.position r) :
    y.isCaptured r = false ∧ .created r ∉ steps := by
  induction h with
  | done => exact ⟨hr, List.not_mem_nil⟩
  | fill hi => cases hidle.symm.trans hi
  | @evict x y q far steps _ hq hfar hlt _ ih =>
    have hcapfar := (RxBank.farthestCapture_spec hfar).1
    have hcap := RxBank.evictFor_isCaptured (q := q) hcapfar
    have hrf := hfarther far hcapfar
    have hne : r ≠ q := fun h => by subst h; omega
    obtain ⟨hy, hnew⟩ := ih (RxBank.evictFor_idleCapture hidle)
      (Bool.eq_false_iff.2 fun h => ((hcap r).1 h).elim hne fun h => Bool.false_ne_true (hr.symm.trans h.1))
      fun z hz => by
        rcases (hcap z).1 hz with rfl | ⟨hz, -⟩
        · omega
        · exact hfarther z hz
    exact ⟨hy, by simpa [hne] using hnew⟩

/-- R57, R59: a position is captured once, or released once, or neither. -/
theorem Captures.mentions (h : Captures c x steps y) (hmap : x.map.map MapEntry.pos = sidePositions c.position b)
    (hx : x.distinct c.position b) (r : Nat) :
    (.created r ∉ steps ∧ .removed r ∉ steps ∧ y.isCaptured r = x.isCaptured r) ∨
      (.created r ∈ steps ∧ .removed r ∉ steps ∧ x.isCaptured r = false ∧ y.isCaptured r = true) ∨
      (.removed r ∈ steps ∧ .created r ∉ steps ∧ x.isCaptured r = true ∧ y.isCaptured r = false) := by
  induction h with
  | done => exact .inl ⟨List.not_mem_nil, List.not_mem_nil, rfl⟩
  | @fill x y i q steps hi hq hrest ih =>
    obtain ⟨hmem, he, hc, hmin⟩ := RxBank.nearestFree_spec hq
    have hcap := RxBank.assignAt_isCaptured (q := q) hx.2.2 hi
    have hx' := hx.assignAt hi he hc (hmap ▸ hmem)
    by_cases hr : r = q
    · subst hr
      obtain ⟨hy, hkept⟩ := hrest.stays hmap hx' ((hcap r).2 (.inl rfl)) fun z hz hez hfree => by
        rw [(RxBank.assignAt_capturesOnly hi).eligible] at hez
        rw [← Bool.not_eq_true, hcap] at hfree
        exact hmin z hz hez (Bool.eq_false_iff.2 fun h => hfree (.inr h))
      exact .inr (.inl ⟨List.mem_cons_self, by simpa using hkept, hc, hy⟩)
    · have hsame : (x.assignAt i q).isCaptured r = x.isCaptured r := by
        rw [Bool.eq_iff_iff, hcap]
        exact or_iff_right hr
      simpa [hr, hsame] using ih hmap hx'
  | @evict x y q far steps hi hq hfar hlt hrest ih =>
    obtain ⟨hmem, he, hc, hmin⟩ := RxBank.nearestFree_spec hq
    obtain ⟨hcapfar, hmax⟩ := RxBank.farthestCapture_spec hfar
    have hcap := RxBank.evictFor_isCaptured (q := q) hcapfar
    have hx' := hx.evictFor hcapfar he hc (hmap ▸ hmem)
    have hqf : q ≠ far := fun h => by subst h; omega
    by_cases hr : r = q
    · subst hr
      obtain ⟨hy, hkept⟩ := hrest.stays hmap hx' ((hcap r).2 (.inl rfl)) fun z hz hez hfree => by
        rw [x.evictFor_capturesOnly.eligible] at hez
        rw [← Bool.not_eq_true, hcap] at hfree
        by_cases hzf : z = far
        · subst hzf
          omega
        · exact hmin z hz hez (Bool.eq_false_iff.2 fun h => hfree (.inr ⟨h, hzf⟩))
      exact .inr (.inl ⟨by simp, by simpa [hqf] using hkept, hc, hy⟩)
    · by_cases hrf : r = far
      · subst hrf
        obtain ⟨hy, hnew⟩ := hrest.left (RxBank.evictFor_idleCapture hi)
          (Bool.eq_false_iff.2 fun h => ((hcap r).1 h).elim hr fun h => h.2 rfl) fun z hz => by
            rcases (hcap z).1 hz with rfl | ⟨hz, -⟩
            · omega
            · exact hmax z hz
        exact .inr (.inr ⟨List.mem_cons_self, by simpa [hr] using hnew, hcapfar, hy⟩)
      · have hsame : (x.evictFor far q).isCaptured r = x.isCaptured r := by
          rw [Bool.eq_iff_iff, hcap]
          exact (or_iff_right hr).trans (and_iff_left hrf)
        simpa [hr, hrf, hsame] using ih hmap hx'

/-- A CAPTURE tracker is untouched, or starts afresh on a position captured (R59). -/
theorem Captures.tracker (h : Captures c x steps y) {k : Tracker} (hk : x.trackers[i]? = some k)
    (hkind : k.kind = some .capture) :
    ∃ k', y.trackers[i]? = some k' ∧ (k' = k ∨ ∃ r, .created r ∈ steps ∧ k' = k.assign r) := by
  induction h generalizing k with
  | done => exact ⟨k, hk, .inl rfl⟩
  | @fill x y j q steps _ _ _ ih =>
    by_cases hij : j = i
    · have hk' : (x.assignAt j q).trackers[i]? = some (k.assign q) := by
        rw [RxBank.assignAt, List.getElem?_modify, hk]
        exact congrArg some (if_pos hij)
      obtain ⟨k', hy, hor⟩ := ih hk' hkind
      refine ⟨k', hy, .inr ?_⟩
      rcases hor with rfl | ⟨r, hr, rfl⟩
      · exact ⟨q, List.mem_cons_self, rfl⟩
      · exact ⟨r, List.mem_cons_of_mem _ hr, rfl⟩
    · have hk' : (x.assignAt j q).trackers[i]? = some k := by
        rw [RxBank.assignAt, List.getElem?_modify, hk]
        exact congrArg some (if_neg hij)
      obtain ⟨k', hy, hor⟩ := ih hk' hkind
      exact ⟨k', hy, hor.imp_right fun ⟨r, hr, h⟩ => ⟨r, List.mem_cons_of_mem _ hr, h⟩⟩
  | @evict x y q far steps _ _ _ _ _ ih =>
    by_cases hpos : k.pos = some far
    · have hk' : (x.evictFor far q).trackers[i]? = some (k.assign q) := by
        rw [RxBank.evictFor, List.getElem?_map, hk, Option.map_some, if_pos ⟨hkind, hpos⟩]
      obtain ⟨k', hy, hor⟩ := ih hk' hkind
      refine ⟨k', hy, .inr ?_⟩
      rcases hor with rfl | ⟨r, hr, rfl⟩
      · exact ⟨q, by simp, rfl⟩
      · exact ⟨r, by simp [hr], rfl⟩
    · have hk' : (x.evictFor far q).trackers[i]? = some k := by
        rw [RxBank.evictFor, List.getElem?_map, hk, Option.map_some, if_neg fun h => hpos h.2]
      obtain ⟨k', hy, hor⟩ := ih hk' hkind
      exact ⟨k', hy, hor.imp_right fun ⟨r, hr, h⟩ => ⟨r, by simp [hr], h⟩⟩

/-! ### The fuel of the policy suffices -/

theorem countP_modify_lt {α : Type} {p : α → Bool} {g : α → α} {l : List α} {i : Nat} {z : α} (hi : l[i]? = some z)
    (hz : p z = true) (hg : p (g z) = false) : (l.modify i g).countP p < l.countP p := by
  induction l generalizing i with
  | nil => simp at hi
  | cons w rest ih =>
    cases i with
    | zero =>
      cases hi
      rw [List.modify_zero_cons, List.countP_cons_of_pos hz, List.countP_cons_of_neg (by simp [hg])]
      exact Nat.lt_succ_self _
    | succ i =>
      have htail := ih (i := i) (by simpa using hi)
      rw [List.modify_succ_cons, List.countP_cons, List.countP_cons]
      omega

theorem countP_map_lt {α : Type} {p p' : α → Bool} {g : α → α} {l : List α} (hle : ∀ z ∈ l, p' (g z) = true → p z = true)
    (hlt : ∃ z ∈ l, p z = true ∧ p' (g z) = false) : (l.map g).countP p' < l.countP p := by
  rw [List.countP_map]
  induction l with
  | nil =>
    obtain ⟨z, hz, -⟩ := hlt
    cases hz
  | cons w rest ih =>
    obtain ⟨hw, hrest⟩ := List.forall_mem_cons.1 hle
    rw [List.countP_cons, List.countP_cons]
    have hmono : rest.countP (p' ∘ g) ≤ rest.countP p := List.countP_mono_left hrest
    have hhead : (if (p' ∘ g) w = true then 1 else 0) ≤ if p w = true then 1 else 0 := by
      by_cases h : (p' ∘ g) w = true
      · rw [if_pos h, if_pos (hw h)]
      · rw [if_neg h]
        exact Nat.zero_le _
    obtain ⟨z, hz, hpz, hgz⟩ := hlt
    rcases List.mem_cons.1 hz with rfl | hz
    · have h' : ¬ (p' ∘ g) z = true := by simp [hgz]
      rw [if_neg h', if_pos hpz]
      omega
    · have := ih hrest ⟨z, hz, hpz, hgz⟩
      omega

/-- The CAPTURE trackers still IDLE. -/
def RxBank.idleCount (x : RxBank) : Nat := x.trackers.countP fun k => k.kind == some .capture && k.isIdle

/-- The captures farther than position `q`. -/
def RxBank.fartherCount (p q : Nat) (x : RxBank) : Nat :=
  x.trackers.countP fun k => decide (k.kind = some .capture) && k.pos.any fun r => decide (distance p q < distance p r)

/-- The fill step ends with no tracker IDLE or no position free. -/
theorem fillStep_filled (fuel : Nat) (x : RxBank) (h : x.idleCount ≤ fuel) :
    (fillStep c fuel x).1.idleCapture = none ∨ (fillStep c fuel x).1.nearestFree c = none := by
  induction fuel generalizing x with
  | zero =>
    refine .inl (List.findIdx?_eq_none_iff.2 fun k hk => ?_)
    have hzero := List.countP_eq_zero.1 (Nat.le_zero.1 h) k hk
    exact Bool.eq_false_iff.2 hzero
  | succ fuel ih =>
    cases hi : x.idleCapture with
    | none =>
      have hstop : fillStep c (fuel + 1) x = (x, []) := by simp only [fillStep, hi]
      rw [hstop]
      exact .inl hi
    | some i =>
      cases hq : x.nearestFree c with
      | none =>
        have hstop : fillStep c (fuel + 1) x = (x, []) := by simp only [fillStep, hi, hq]
        rw [hstop]
        exact .inr hq
      | some q =>
        have hstep : (fillStep c (fuel + 1) x).1 = (fillStep c fuel (x.assignAt i q)).1 := by
          simp only [fillStep, hi, hq]
          rfl
        obtain ⟨k, hk, hkind, hidle⟩ := RxBank.idleCapture_spec hi
        have hless : (x.assignAt i q).idleCount < x.idleCount :=
          countP_modify_lt hk (by simp [hkind, hidle]) (by simp [Tracker.assign, Tracker.acquire, Tracker.isIdle])
        rw [hstep]
        exact ih _ (by omega)

/-- The captures are settled: with no tracker IDLE no free position is nearer than the farthest capture. -/
def RxBank.Settled (c : Commissioning) (x : RxBank) : Prop :=
  ∀ q far, x.nearestFree c = some q → x.farthestCapture c.position = some far →
    distance c.position far ≤ distance c.position q

/-- With each eviction fewer captures are farther than the nearest free position. -/
theorem RxBank.fartherCount_evictFor {q' : Nat} (hq : x.nearestFree c = some q) (hfar : x.farthestCapture c.position = some far)
    (hlt : distance c.position q < distance c.position far) (hq' : (x.evictFor far q).nearestFree c = some q') :
    (x.evictFor far q).fartherCount c.position q' < x.fartherCount c.position q := by
  obtain ⟨hcapfar, -⟩ := RxBank.farthestCapture_spec hfar
  obtain ⟨-, -, -, hmin⟩ := RxBank.nearestFree_spec hq
  obtain ⟨hmem', he', hc', -⟩ := RxBank.nearestFree_spec hq'
  have hfarther : distance c.position q ≤ distance c.position q' := by
    rw [x.evictFor_capturesOnly.eligible] at he'
    rw [← Bool.not_eq_true, RxBank.evictFor_isCaptured hcapfar] at hc'
    by_cases hf : q' = far
    · subst hf
      omega
    · exact hmin q' hmem' he' (Bool.eq_false_iff.2 fun h => hc' (.inr ⟨h, hf⟩))
  refine countP_map_lt (fun k _ h => ?_) ?_
  · simp only [Bool.and_eq_true, decide_eq_true_eq, Option.any_eq_true] at h ⊢
    obtain ⟨hkind, r, hr, hlt'⟩ := h
    split at hr
    · cases hr
      omega
    · next hn =>
      rw [if_neg hn] at hkind
      exact ⟨hkind, r, hr, by omega⟩
  · obtain ⟨k, hk, hkind, hpos⟩ := RxBank.isCaptured_iff.1 hcapfar
    refine ⟨k, hk, by simp [hkind, hpos, hlt], ?_⟩
    rw [if_pos ⟨hkind, hpos⟩]
    simp only [Tracker.assign_pos, Option.any_some, Bool.and_eq_false_iff, decide_eq_false_iff_not]
    exact .inr (by omega)

theorem evictStep_settled (fuel : Nat) (x : RxBank) (hidle : x.idleCapture = none)
    (h : ∀ q, x.nearestFree c = some q → x.fartherCount c.position q ≤ fuel) :
    (evictStep c fuel x).1.idleCapture = none ∧ (evictStep c fuel x).1.Settled c := by
  induction fuel generalizing x with
  | zero =>
    refine ⟨hidle, fun q far hq hfar => ?_⟩
    obtain ⟨k, hk, hkind, hpos⟩ := RxBank.isCaptured_iff.1 (RxBank.farthestCapture_spec hfar).1
    have hzero := List.countP_eq_zero.1 (Nat.le_zero.1 (h q hq)) k hk
    simp only [hkind, hpos, decide_true, Bool.true_and, Option.any_some, decide_eq_true_eq] at hzero
    omega
  | succ fuel ih =>
    cases hq : x.nearestFree c with
    | none =>
      have hstop : evictStep c (fuel + 1) x = (x, []) := by simp only [evictStep, hidle, hq]
      rw [hstop]
      exact ⟨hidle, fun q far hq' => nomatch hq.symm.trans hq'⟩
    | some q =>
      cases hfar : x.farthestCapture c.position with
      | none =>
        have hstop : evictStep c (fuel + 1) x = (x, []) := by simp only [evictStep, hidle, hq, hfar]
        rw [hstop]
        exact ⟨hidle, fun q far _ hf => nomatch hfar.symm.trans hf⟩
      | some far =>
        by_cases hlt : distance c.position q < distance c.position far
        · have hstep : (evictStep c (fuel + 1) x).1 = (evictStep c fuel (x.evictFor far q)).1 := by
            simp only [evictStep, hidle, hq, hfar, if_pos hlt]
            rfl
          rw [hstep]
          refine ih _ (RxBank.evictFor_idleCapture hidle) fun q' hq' => ?_
          have := RxBank.fartherCount_evictFor hq hfar hlt hq'
          have := h q hq
          omega
        · have hstop : evictStep c (fuel + 1) x = (x, []) := by simp only [evictStep, hidle, hq, hfar, if_neg hlt]
          rw [hstop]
          refine ⟨hidle, fun q' far' hq' hfar' => ?_⟩
          cases hq.symm.trans hq'
          cases hfar.symm.trans hfar'
          omega

theorem fillStep_length (fuel : Nat) (x : RxBank) : (fillStep c fuel x).1.trackers.length = x.trackers.length := by
  have h := congrArg List.length (fillStep_captures c fuel x).capturesOnly.kinds
  simpa using h

/-- R57: at the end no position is free, or no tracker IDLE and no free position nearer than a capture. -/
theorem capturePolicy_settled (c : Commissioning) (x : RxBank) :
    (capturePolicy c x).1.nearestFree c = none ∨
      (capturePolicy c x).1.idleCapture = none ∧ (capturePolicy c x).1.Settled c := by
  have hpolicy : (capturePolicy c x).1 = (evictStep c x.trackers.length (fillStep c x.trackers.length x).1).1 := rfl
  rw [hpolicy]
  rcases fillStep_filled (c := c) x.trackers.length x List.countP_le_length with hidle | hnone
  · refine .inr (evictStep_settled _ _ hidle fun q _ => ?_)
    exact List.countP_le_length.trans (fillStep_length (c := c) x.trackers.length x).le
  · have hstop (fuel : Nat) (z : RxBank) (hz : z.nearestFree c = none) : (evictStep c fuel z).1 = z := by
      cases fuel with
      | zero => rfl
      | succ fuel =>
        unfold evictStep
        rw [hz]
        cases z.idleCapture <;> rfl
    rw [hstop _ _ hnone]
    exact .inl hnone

/-- R57: an eligible position that is not captured finds no CAPTURE tracker IDLE, and every capture nearer than itself. -/
theorem capturePolicy_nearest (hmap : x.map.map MapEntry.pos = sidePositions c.position b) (hx : x.distinct c.position b)
    (he : (capturePolicy c x).1.eligible c q = true) (hq : (capturePolicy c x).1.isCaptured q = false) {k : Tracker}
    (hk : k ∈ (capturePolicy c x).1.trackers) (hkind : k.kind = some .capture) :
    ∃ r, k.pos = some r ∧ distance c.position r < distance c.position q := by
  have hcaptures := capturePolicy_captures c x
  have hsettled := capturePolicy_settled c x
  generalize (capturePolicy c x).1 = y at he hq hk hcaptures hsettled
  have hmap' : y.map.map MapEntry.pos = sidePositions c.position b := by
    rw [hcaptures.capturesOnly.map]
    exact hmap
  obtain ⟨-, hside, hsound⟩ := hcaptures.distinct hmap hx
  have hqmap : q ∈ y.map.map MapEntry.pos := by
    obtain ⟨⟨e, he, -⟩, -⟩ := RxBank.eligible_iff.1 he
    exact List.mem_map.2 ⟨e, List.mem_of_find?_eq_some he, pos_of_findEntry he⟩
  rcases hsettled with hnone | ⟨hidle, hsettled⟩
  · exact absurd (RxBank.nearestFree_eq_none hnone q hqmap he) (by rw [hq]; exact Bool.false_ne_true)
  · cases hfree : y.nearestFree c with
    | none => exact absurd (RxBank.nearestFree_eq_none hfree q hqmap he) (by rw [hq]; exact Bool.false_ne_true)
    | some z =>
      obtain ⟨-, -, -, hmin⟩ := RxBank.nearestFree_spec hfree
      have hkidle := RxBank.idleCapture_eq_none.1 hidle k hk hkind
      obtain ⟨hpos, -⟩ := hsound k hk
      rw [hkidle] at hpos
      obtain ⟨r, hr⟩ : ∃ r, k.pos = some r := by
        cases h : k.pos with
        | none => rw [h] at hpos; cases hpos
        | some r => exact ⟨r, rfl⟩
      have hcap : y.isCaptured r = true := RxBank.isCaptured_iff.2 ⟨k, hk, hkind, hr⟩
      cases hfar : y.farthestCapture c.position with
      | none =>
        rw [RxBank.farthestCapture_eq, farthestOf_eq_none] at hfar
        have hmem := RxBank.mem_captures.2 hcap
        rw [hfar] at hmem
        cases hmem
      | some far =>
        have hrfar := (RxBank.farthestCapture_spec hfar).2 r hcap
        have hfz := hsettled z far hfree hfar
        have hzq := hmin q hqmap he hq
        have hne : r ≠ q := fun h => by
          rw [h, hq] at hcap
          cases hcap
        have hrside := hside r (RxBank.mem_assigned.2 ⟨k, hk, hr⟩)
        have hqside : q ∈ sidePositions c.position b := hmap' ▸ hqmap
        refine ⟨r, hr, ?_⟩
        rw [mem_sidePositions] at hrside hqside
        unfold distance at *
        cases b <;> dsimp only at hrside hqside <;> omega

end

end Sys2Proof.Machine
end

section
/-! What follows a presence change (O20): the captures of the bank, the records of what is captured and released, and the Demand
List with the targets. -/

namespace Sys2Proof.Machine

/-! ### The records that follow (R72, R78) -/

theorem findRecord_append_vacant (rs : List Neighbour) (now : Moment) (b : Bank) (q r : Nat) :
    findRecord (rs ++ [Neighbour.vacant now b q]) r =
      (findRecord rs r).or (if q = r then some (Neighbour.vacant now b q) else none) := by
  rw [findRecord, findRecord, List.find?_append]
  congr 1
  by_cases h : q = r <;> simp [Neighbour.vacant, h]

theorem findRecord_filter_origin (rs : List Neighbour) (q r : Nat) :
    findRecord (rs.filter fun x => x.origin != q) r = if q = r then none else findRecord rs r := by
  rw [findRecord, findRecord, List.find?_filter]
  by_cases h : q = r
  · rw [if_pos h, List.find?_eq_none]
    intro x _
    simp [h]
  · rw [if_neg h]
    congr 1
    funext x
    by_cases hx : x.origin = r
    · simp [hx, Ne.symm h]
    · simp [hx]

section
variable {now : Moment} {b : Bank} {r : Nat} {steps : List CaptureStep} {rs : List Neighbour}

/-- A record stands while its position is not released. -/
theorem findRecord_follow_of_some {x : Neighbour} (hkept : .removed r ∉ steps) (h : findRecord rs r = some x) :
    findRecord (steps.foldl (CaptureStep.onRecords now b) rs) r = some x := by
  induction steps generalizing rs with
  | nil => exact h
  | cons step rest ih =>
    obtain ⟨hhead, hrest⟩ := not_or.1 (mt List.mem_cons.2 hkept)
    refine ih hrest ?_
    cases step with
    | created q => rw [CaptureStep.onRecords, findRecord_append_vacant, h, Option.some_or]
    | removed q =>
      have hq : q ≠ r := fun hq => hhead (congrArg _ hq.symm)
      rw [CaptureStep.onRecords, findRecord_filter_origin, if_neg hq, h]

/-- A position not captured gets no record. -/
theorem findRecord_follow_of_none (hnew : .created r ∉ steps) (h : findRecord rs r = none) :
    findRecord (steps.foldl (CaptureStep.onRecords now b) rs) r = none := by
  induction steps generalizing rs with
  | nil => exact h
  | cons step rest ih =>
    obtain ⟨hhead, hrest⟩ := not_or.1 (mt List.mem_cons.2 hnew)
    refine ih hrest ?_
    cases step with
    | created q =>
      have hq : q ≠ r := fun hq => hhead (congrArg _ hq.symm)
      rw [CaptureStep.onRecords, findRecord_append_vacant, h, if_neg hq, Option.or_none]
    | removed q => rw [CaptureStep.onRecords, findRecord_filter_origin, h, ite_self]

theorem findRecord_follow_unmentioned (hnew : .created r ∉ steps) (hkept : .removed r ∉ steps) :
    findRecord (steps.foldl (CaptureStep.onRecords now b) rs) r = findRecord rs r := by
  cases h : findRecord rs r with
  | none => exact findRecord_follow_of_none hnew h
  | some x => exact findRecord_follow_of_some hkept h

theorem findRecord_follow_created (hnew : .created r ∈ steps) (hkept : .removed r ∉ steps) (h : findRecord rs r = none) :
    findRecord (steps.foldl (CaptureStep.onRecords now b) rs) r = some (Neighbour.vacant now b r) := by
  induction steps generalizing rs with
  | nil => cases hnew
  | cons step rest ih =>
    obtain ⟨-, hrest⟩ := not_or.1 (mt List.mem_cons.2 hkept)
    rw [List.foldl_cons]
    cases step with
    | created q =>
      by_cases hq : q = r
      · subst hq
        refine findRecord_follow_of_some hrest ?_
        rw [CaptureStep.onRecords, findRecord_append_vacant, h, if_pos rfl, Option.none_or]
      · refine ih (by simpa [Ne.symm hq] using hnew) hrest ?_
        rw [CaptureStep.onRecords, findRecord_append_vacant, h, if_neg hq, Option.or_none]
    | removed q =>
      refine ih (by simpa using hnew) hrest ?_
      rw [CaptureStep.onRecords, findRecord_filter_origin, h, ite_self]

theorem findRecord_follow_removed (hgone : .removed r ∈ steps) (hnew : .created r ∉ steps) :
    findRecord (steps.foldl (CaptureStep.onRecords now b) rs) r = none := by
  induction steps generalizing rs with
  | nil => cases hgone
  | cons step rest ih =>
    obtain ⟨-, hrest⟩ := not_or.1 (mt List.mem_cons.2 hnew)
    rw [List.foldl_cons]
    cases step with
    | created q => exact ih (by simpa using hgone) hrest
    | removed q =>
      by_cases hq : q = r
      · subst hq
        refine findRecord_follow_of_none hrest ?_
        rw [CaptureStep.onRecords, findRecord_filter_origin, if_pos rfl]
      · exact ih (by simpa [Ne.symm hq] using hgone) hrest

end

/-! ### The Demand List that follows (R143) -/

/-- The PBC on a REMOVED announcement: the entries drawn from the position are gone, and the targets recomputed. -/
def Pbc.forget (c : Commissioning) (now : Moment) (p : Pbc) (q : Nat) : Pbc :=
  Pbc.retarget { p with demands := p.demands.filter fun d => decide (d ∉ demandsFrom c q) } c now

theorem foldl_demandUpdate_of_absent {rs : List Neighbour} {q : Nat} (h : standing rs q = .absent) (l ds : List Demand) :
    l.foldl (fun ds d => demandUpdate rs q d ds) ds = ds.filter fun d => decide (d ∉ l) := by
  induction l generalizing ds with
  | nil => exact (List.filter_eq_self.2 fun d _ => by simp).symm
  | cons x l ih =>
    have hx : demandUpdate rs q x ds = ds.filter (· != x) := by rw [demandUpdate, h]
    rw [List.foldl_cons, ih, hx, List.filter_filter]
    refine List.filter_congr fun d _ => ?_
    rw [Bool.eq_iff_iff]
    simp [and_comm]

theorem Pbc.hear_of_absent {rs : List Neighbour} {q : Nat} (h : standing rs q = .absent) (p : Pbc) (c : Commissioning)
    (now : Moment) : p.hear c now rs q = p.forget c now q := by
  rw [Pbc.hear, foldl_demandUpdate_of_absent h, Pbc.forget]

/-- The positions released, in order. -/
def removedIn (steps : List CaptureStep) : List Nat :=
  steps.filterMap fun step => match step with
    | .removed q => some q
    | .created _ => none

theorem mem_removedIn {steps : List CaptureStep} {q : Nat} : q ∈ removedIn steps ↔ .removed q ∈ steps := by
  rw [removedIn, List.mem_filterMap]
  constructor
  · rintro ⟨step, hstep, h⟩
    cases step with
    | created r => cases h
    | removed r =>
      cases h
      exact hstep
  · exact fun h => ⟨_, h, rfl⟩

theorem State.followCaptures_pbc_eq (s : State) (b : Bank) (steps : List CaptureStep) :
    (s.followCaptures b steps).pbc = (removedIn steps).foldl (Pbc.forget s.cfg s.now) s.pbc := by
  unfold State.followCaptures
  induction steps generalizing s with
  | nil => rfl
  | cons step rest ih =>
    cases step with
    | created q => exact ih (s.createRecord b q)
    | removed q =>
      have habsent : standing (s.records.filter fun r => r.origin != q) q = .absent := by
        rw [standing, findRecord_filter_origin, if_pos rfl]
      have hpbc : (s.removeRecord q).pbc = s.pbc.forget s.cfg s.now q := Pbc.hear_of_absent habsent ..
      exact (ih (s.removeRecord q)).trans (congrArg ((removedIn rest).foldl (Pbc.forget s.cfg s.now)) hpbc)

section
variable {c : Commissioning} {now : Moment}

theorem foldl_forget_demands (l : List Nat) (p : Pbc) :
    (l.foldl (Pbc.forget c now) p).demands = p.demands.filter fun d => decide (∀ q ∈ l, d ∉ demandsFrom c q) := by
  induction l generalizing p with
  | nil => exact (List.filter_eq_self.2 fun d _ => by simp).symm
  | cons q l ih =>
    rw [List.foldl_cons, ih, Pbc.forget, Pbc.retarget_demands, List.filter_filter]
    refine List.filter_congr fun d _ => ?_
    rw [Bool.eq_iff_iff]
    simp [and_comm]

/-- What an event leaves of a pump that it only gives a target. -/
def Pump.kept (x : Pump) : PumpState × Bool × Option Nat := (x.state, x.latch, x.preProbe)

theorem Pbc.retarget_kept (p : Pbc) (c : Commissioning) (now : Moment) :
    (p.retarget c now).pumps.map Pump.kept = p.pumps.map Pump.kept := by
  refine List.ext_getElem? fun j => ?_
  rw [List.getElem?_map, List.getElem?_map]
  cases hx : p.pumps[j]? with
  | none =>
    have hnone : (p.retarget c now).pumps[j]? = none := by rw [Pbc.retarget, List.getElem?_mapIdx, hx]; rfl
    rw [hnone]
  | some x =>
    obtain ⟨y, hy, hstate, hlatch, hpre, -⟩ := p.retarget_steered c now hx
    rw [hy, Option.map_some, Option.map_some, Pump.kept, Pump.kept, hstate, hlatch, hpre]

theorem foldl_forget_kept (l : List Nat) (p : Pbc) :
    (l.foldl (Pbc.forget c now) p).pumps.map Pump.kept = p.pumps.map Pump.kept := by
  induction l generalizing p with
  | nil => rfl
  | cons q l ih => exact (ih _).trans (Pbc.retarget_kept ..)

theorem foldl_forget_frame (l : List Nat) (p : Pbc) :
    l.foldl (Pbc.forget c now) p =
      { p with demands := (l.foldl (Pbc.forget c now) p).demands, pumps := (l.foldl (Pbc.forget c now) p).pumps } := by
  induction l generalizing p with
  | nil => rfl
  | cons q l ih =>
    rw [List.foldl_cons]
    exact (ih _).trans rfl

/-! ### The targets that follow (R132, R133) -/

/-- A second recomputation in the same event changes nothing. -/
theorem Pump.ramp_ramp (k : PumpConfig) (now : Moment) (x : Pump) : Pump.ramp k now (Pump.ramp k now x) = Pump.ramp k now x := by
  by_cases hb : x.busy = true
  · by_cases hk : k.interval = 0
    · have hx : Pump.ramp k now x = { x with applied := x.target, step := none } := by rw [Pump.ramp, if_pos hb, if_pos hk]
      rw [hx]
      refine if_neg ?_
      simp [Pump.busy]
    · have hx : Pump.ramp k now x = { x with step := some (x.step.getD (now + Config.stepUnit * k.interval)) } := by
        rw [Pump.ramp, if_pos hb, if_neg hk]
      have hb' : ({ x with step := some (x.step.getD (now + Config.stepUnit * k.interval)) } : Pump).busy = true := hb
      rw [hx]
      exact (if_pos hb').trans (if_neg hk)
  · have hx : Pump.ramp k now x = { x with step := none } := by rw [Pump.ramp, if_neg hb]
    rw [hx]
    exact if_neg hb

theorem Pbc.retarget_retarget (p : Pbc) (c : Commissioning) (now : Moment) :
    (p.retarget c now).retarget c now = p.retarget c now := by
  have htarget (j : Nat) : (p.retarget c now).targetOf c j = p.targetOf c j := by
    rw [Pbc.targetOf_eq, Pbc.targetOf_eq]
    exact targetSum_congr (p.retarget_demands c now) (p.retarget_states c now) j
  have hpumps : ((p.retarget c now).retarget c now).pumps = (p.retarget c now).pumps := by
    refine List.ext_getElem? fun j => ?_
    cases hx : p.pumps[j]? with
    | none => simp [Pbc.retarget, hx]
    | some x =>
      let z := Pump.ramp (c.pump j) now { x with target := p.targetOf c j }
      have h1 : (p.retarget c now).pumps[j]? = some z := getElem?_mapIdx_some.2 ⟨x, hx, rfl⟩
      have hz : { z with target := p.targetOf c j } = z := by
        have ht : z.target = p.targetOf c j := Pump.ramp_target ..
        rw [← ht]
      have h2 : ((p.retarget c now).retarget c now).pumps[j]? = some z := by
        refine getElem?_mapIdx_some.2 ⟨z, h1, ?_⟩
        rw [htarget, hz]
        exact Pump.ramp_ramp ..
      rw [h1, h2]
  have h : (p.retarget c now).retarget c now =
      { p.retarget c now with pumps := ((p.retarget c now).retarget c now).pumps } := rfl
  rw [h, hpumps]

/-- Where one position alone is the source of demands, and the targets stand, the PBC after some releases is as if the Demand List
had changed at once. -/
theorem foldl_forget_retarget {p : Pbc} (hp : p.retarget c now = p) {near : Nat} (l : List Nat)
    (hl : ∀ q ∈ l, q ≠ near → demandsFrom c q = []) :
    l.foldl (Pbc.forget c now) p = Pbc.retarget { p with demands := (l.foldl (Pbc.forget c now) p).demands } c now := by
  have hsteps (z : Pbc) (hz : z = Pbc.retarget { p with demands := z.demands } c now)
      (hor : z = p ∨ (z.demands.filter fun d => decide (d ∉ demandsFrom c near)) = z.demands) :
      l.foldl (Pbc.forget c now) z =
        Pbc.retarget { p with demands := (l.foldl (Pbc.forget c now) z).demands } c now := by
    induction l generalizing z with
    | nil => exact hz
    | cons q l ih =>
      obtain ⟨hq, hl⟩ := List.forall_mem_cons.1 hl
      have hstand (h : (z.demands.filter fun d => decide (d ∉ demandsFrom c q)) = z.demands) :
          z.forget c now q = z := by
        rw [Pbc.forget, h]
        have hself : z.retarget c now = z := by
          rw [hz]
          exact Pbc.retarget_retarget ..
        exact hself
      by_cases hn : q = near
      · subst hn
        rcases hor with rfl | hfiltered
        · refine ih hl _ rfl (.inr ?_)
          rw [Pbc.forget, Pbc.retarget_demands, List.filter_filter]
          simp
        · rw [List.foldl_cons, hstand hfiltered]
          exact ih hl z hz (.inr hfiltered)
      · have hall : (z.demands.filter fun d => decide (d ∉ demandsFrom c q)) = z.demands := by
          rw [hq hn]
          exact List.filter_eq_self.2 fun d _ => by simp
        rw [List.foldl_cons, hstand hall]
        exact ih hl z hz hor
  exact hsteps p hp.symm (.inl rfl)

/-- The one position of a side from which demands are drawn (R142). -/
def nearest (p : Nat) : Bank → Nat
  | .e => p - 1
  | .w => p + 1

theorem demandsFrom_eq_nil {b : Bank} {q : Nat} (h : q ∈ sidePositions c.position b) (hq : q ≠ nearest c.position b) :
    demandsFrom c q = [] := by
  rw [List.eq_nil_iff_forall_not_mem]
  intro d hd
  obtain ⟨-, hpos⟩ := mem_demandsFrom.1 hd
  have hcases : q = c.position - 1 ∨ q = c.position + 1 := by
    unfold demandPos upstreamPos downstreamPos at hpos
    split at hpos <;> split at hpos <;> omega
  rw [mem_sidePositions] at h
  cases b <;> dsimp only [nearest] at h hq <;> omega

end

/-! ### A presence change as a whole (R57, R58) -/

section
variable {c : Commissioning} {b : Bank} {x y : RxBank} {q r : Nat} {o : Presence}

/-- What is captured is eligible when it is. -/
theorem Captures.eligible_of_created {steps : List CaptureStep} (h : Captures c x steps y) (hr : .created r ∈ steps) :
    x.eligible c r = true := by
  induction h with
  | done => cases hr
  | @fill x y i q steps hi hq _ ih =>
    rcases List.mem_cons.1 hr with heq | hr
    · cases heq
      exact (RxBank.nearestFree_spec hq).2.1
    · rw [← (RxBank.assignAt_capturesOnly hi).eligible]
      exact ih hr
  | @evict x y q far steps _ hq _ _ _ ih =>
    rcases List.mem_cons.1 hr with heq | hr
    · cases heq
    · rcases List.mem_cons.1 hr with heq | hr
      · cases heq
        exact (RxBank.nearestFree_spec hq).2.1
      · rw [← x.evictFor_capturesOnly.eligible]
        exact ih hr

/-- R57 to R59: in a presence change a position is captured once, or released once, or neither. -/
theorem RxBank.recapture_mentions (hmap : x.map.map MapEntry.pos = sidePositions c.position b) (hx : x.distinct c.position b)
    (hgo : o.alarming = false → x.eligible c q = false) (r : Nat) :
    (.created r ∉ (x.recapture c q o).2 ∧ .removed r ∉ (x.recapture c q o).2 ∧
        (x.recapture c q o).1.isCaptured r = x.isCaptured r) ∨
      (.created r ∈ (x.recapture c q o).2 ∧ .removed r ∉ (x.recapture c q o).2 ∧ x.isCaptured r = false ∧
        (x.recapture c q o).1.isCaptured r = true) ∨
      (.removed r ∈ (x.recapture c q o).2 ∧ .created r ∉ (x.recapture c q o).2 ∧ x.isCaptured r = true ∧
        (x.recapture c q o).1.isCaptured r = false) := by
  obtain ⟨steps, hsteps, hcap⟩ := x.recapture_captures c q o
  rw [hsteps]
  have hmentions := hcap.mentions (b := b) (by rw [x.lettingGo_map]; exact hmap) (hx.lettingGo q o) r
  have hcreated : .created r ∈ steps → (x.lettingGo q o).1.eligible c r = true := hcap.eligible_of_created
  rcases x.lettingGo_cases q o with ⟨h, -⟩ | ⟨h, ho, hq⟩ <;> rw [h] at hmentions hcreated ⊢
  · exact hmentions
  · have hfree := x.freeOf_isCaptured (q := q) r
    rw [x.freeOf_capturesOnly.eligible] at hcreated
    by_cases hr : r = q
    · subst hr
      have hnot : (x.freeOf r).isCaptured r = false := Bool.eq_false_iff.2 fun h => (hfree.1 h).2 rfl
      have hnew : .created r ∉ steps := fun h => by
        have he := hcreated h
        rw [hgo ho] at he
        cases he
      rcases hmentions with ⟨-, -, hy⟩ | ⟨hmem, -⟩ | ⟨-, -, hcaptured, -⟩
      · exact .inr (.inr ⟨by simp, by simpa using hnew, hq, hy.trans hnot⟩)
      · exact absurd hmem hnew
      · cases hnot.symm.trans hcaptured
    · have hsame : (x.freeOf q).isCaptured r = x.isCaptured r := by
        rw [Bool.eq_iff_iff, hfree]
        exact and_iff_left hr
      simpa [hr, hsame] using hmentions

/-- A CAPTURE tracker through a presence change: untouched, released, or afresh on a position captured (R58, R59). -/
theorem RxBank.recapture_tracker {i : Nat} {k : Tracker} (hk : x.trackers[i]? = some k) (hkind : k.kind = some .capture) :
    ∃ k', (x.recapture c q o).1.trackers[i]? = some k' ∧
      (k' = k ∨ k' = k.free ∧ k.pos = some q ∨ ∃ r, .created r ∈ (x.recapture c q o).2 ∧ k' = k.assign r) := by
  obtain ⟨steps, hsteps, hcap⟩ := x.recapture_captures c q o
  rw [hsteps]
  have hkeep (hk' : (x.lettingGo q o).1.trackers[i]? = some k) :
      ∃ k', (x.recapture c q o).1.trackers[i]? = some k' ∧
        (k' = k ∨ k' = k.free ∧ k.pos = some q ∨ ∃ r, .created r ∈ (x.lettingGo q o).2 ++ steps ∧ k' = k.assign r) := by
    obtain ⟨k', hy, hor⟩ := hcap.tracker hk' hkind
    exact ⟨k', hy, hor.imp_right fun ⟨r, hr, h⟩ => .inr ⟨r, List.mem_append_right _ hr, h⟩⟩
  rcases x.lettingGo_cases q o with ⟨h, -⟩ | ⟨h, -, -⟩
  · exact hkeep (by rw [h]; exact hk)
  · by_cases hpos : k.pos = some q
    · have hk' : (x.lettingGo q o).1.trackers[i]? = some k.free := by
        rw [h, RxBank.freeOf, List.getElem?_map, hk, Option.map_some, if_pos ⟨hkind, hpos⟩]
      obtain ⟨k', hy, hor⟩ := hcap.tracker hk' hkind
      refine ⟨k', hy, .inr ?_⟩
      rcases hor with rfl | ⟨r, hr, rfl⟩
      · exact .inl ⟨rfl, hpos⟩
      · exact .inr ⟨r, List.mem_append_right _ hr, rfl⟩
    · refine hkeep ?_
      rw [h, RxBank.freeOf, List.getElem?_map, hk, Option.map_some, if_neg fun hn => hpos hn.2]

theorem RxBank.lettingGo_capturesOnly (q : Nat) (o : Presence) (x : RxBank) : x.CapturesOnly (x.lettingGo q o).1 := by
  rcases x.lettingGo_cases q o with ⟨h, -⟩ | ⟨h, -⟩ <;> rw [h]
  · exact .refl x
  · exact x.freeOf_capturesOnly

theorem RxBank.recapture_capturesOnly (c : Commissioning) (q : Nat) (o : Presence) (x : RxBank) :
    x.CapturesOnly (x.recapture c q o).1 := by
  obtain ⟨steps, -, hcap⟩ := x.recapture_captures c q o
  exact (x.lettingGo_capturesOnly q o).trans hcap.capturesOnly

theorem sidePositions_nodup (p : Nat) (b : Bank) : (sidePositions p b).Nodup := by
  rw [sidePositions_eq]
  cases b
  · exact List.nodup_range'
  · exact List.nodup_reverse.2 List.nodup_range'

/-- The entry of a position, where no two entries share one. -/
theorem findEntry_eq_some_iff {m : List MapEntry} (h : (m.map MapEntry.pos).Nodup) {q : Nat} {e : MapEntry} :
    findEntry m q = some e ↔ e ∈ m ∧ e.pos = q := by
  constructor
  · exact fun h => ⟨List.mem_of_find?_eq_some h, pos_of_findEntry h⟩
  · rintro ⟨he, rfl⟩
    cases hf : findEntry m e.pos with
    | none => exact absurd (List.find?_eq_none.1 hf e he) (by simp)
    | some e' =>
      have heq := List.inj_on_of_nodup_map h (List.mem_of_find?_eq_some hf) he (pos_of_findEntry hf)
      rw [heq]

/-- R56 on a whole map. -/
theorem RxBank.eligible_iff_of_whole (hmap : x.map.map MapEntry.pos = sidePositions c.position b) :
    x.eligible c q = true ↔
      q ∈ sidePositions c.position b ∧ (¬ ∃ k ∈ x.trackers, k.kind = some .pinned ∧ k.pos = some q) ∧
        (∃ word, c.interest[(q - 1) / 4 / 16]? = some word ∧ word.toNat.testBit ((q - 1) / 4 % 16) = true) ∧
        ∃ e ∈ x.map, e.pos = q ∧ (e.confirmed = .alarm ∨ e.confirmed = .isolated) := by
  have hnodup : (x.map.map MapEntry.pos).Nodup := hmap ▸ sidePositions_nodup c.position b
  have halarming (z : Presence) : z.alarming = true ↔ z = .alarm ∨ z = .isolated := by cases z <;> simp [Presence.alarming]
  have hinterest : c.interested q = true ↔
      ∃ word, c.interest[(q - 1) / 4 / 16]? = some word ∧ word.toNat.testBit ((q - 1) / 4 % 16) = true := by
    rw [Commissioning.interested, List.getD_eq_getElem?_getD]
    cases c.interest[(q - 1) / 4 / 16]? <;> simp [BitVec.testBit_toNat]
  rw [RxBank.eligible_iff, hinterest, ← RxBank.isPinned_iff, Bool.not_eq_true]
  simp only [findEntry_eq_some_iff hnodup, halarming]
  constructor
  · rintro ⟨⟨e, ⟨he, hpos⟩, ha⟩, hpin, hin⟩
    exact ⟨hmap ▸ List.mem_map.2 ⟨e, he, hpos⟩, hpin, hin, e, he, hpos, ha⟩
  · rintro ⟨-, hpin, hin, e, he, hpos, ha⟩
    exact ⟨⟨e, ⟨he, hpos⟩, ha⟩, hpin, hin⟩

end

end Sys2Proof.Machine
end

section
/-! The confirmed change of a class (O20), put together: the captures, the trackers, the records and the Demand List after a dwell
that confirms it. -/

namespace Sys2Proof.Machine

/-! ### The bank whose entry has changed -/

section
variable {c : Commissioning} {b : Bank} {x : RxBank} {q r : Nat} {o : Presence}

theorem RxBank.any_capture_eq (x : RxBank) (q : Nat) :
    (x.trackers.any fun k => decide (k.kind = some .capture ∧ k.pos = some q)) = x.isCaptured q := by
  rw [RxBank.isCaptured]
  congr 1
  funext k
  rw [Bool.eq_iff_iff]
  simp

/-- A position just confirmed to be neither ALARM nor ISOLATED is not eligible (R56). -/
theorem RxBank.visited_not_eligible {p : Nat} {now : Moment} (hc : (x.confirms q o).isSome = true) (ho : o.alarming = false) :
    ((x.observeAt q o).moveOn p b now q).eligible c q = false := by
  rw [RxBank.eligible, RxBank.alarming_eq, (RxBank.moveOn_keeps ..).1, x.confirmed_observeAt, if_pos hc]
  simp [ho]

section
variable (hmap : x.map.map MapEntry.pos = sidePositions c.position b) (hx : x.distinct c.position b)
  (hgo : o.alarming = false → x.eligible c q = false)
include hmap hx hgo

theorem RxBank.mem_removedIn_recapture :
    r ∈ removedIn (x.recapture c q o).2 ↔ x.isCaptured r = true ∧ (x.recapture c q o).1.isCaptured r = false := by
  rw [mem_removedIn]
  rcases RxBank.recapture_mentions hmap hx hgo r with ⟨-, hn, heq⟩ | ⟨-, hn, hfree, -⟩ | ⟨hmem, -, hcap, hfree⟩
  · rw [heq]
    exact iff_of_false hn fun ⟨h1, h2⟩ => by cases h1.symm.trans h2
  · exact iff_of_false hn fun ⟨h1, _⟩ => by cases h1.symm.trans hfree
  · exact iff_of_true hmem ⟨hcap, hfree⟩

theorem findRecord_of_capture {rs : List Neighbour} (now : Moment) (hfree : x.isCaptured r = false)
    (hcap : (x.recapture c q o).1.isCaptured r = true) (h : findRecord rs r = none) :
    findRecord ((x.recapture c q o).2.foldl (CaptureStep.onRecords now b) rs) r = some (Neighbour.vacant now b r) := by
  rcases RxBank.recapture_mentions hmap hx hgo r with ⟨-, -, heq⟩ | ⟨hnew, hkept, -⟩ | ⟨-, -, hcap', -⟩
  · cases hcap.symm.trans (heq.trans hfree)
  · exact findRecord_follow_created hnew hkept h
  · cases hcap'.symm.trans hfree

theorem findRecord_of_release (rs : List Neighbour) (now : Moment) (hcap : x.isCaptured r = true)
    (hfree : (x.recapture c q o).1.isCaptured r = false) :
    findRecord ((x.recapture c q o).2.foldl (CaptureStep.onRecords now b) rs) r = none := by
  rcases RxBank.recapture_mentions hmap hx hgo r with ⟨-, -, heq⟩ | ⟨-, -, hfree', -⟩ | ⟨hgone, hnew, -⟩
  · cases hcap.symm.trans (heq.symm.trans hfree)
  · cases hcap.symm.trans hfree'
  · exact findRecord_follow_removed hgone hnew

theorem findRecord_of_stay (rs : List Neighbour) (now : Moment) (h : x.isCaptured r = (x.recapture c q o).1.isCaptured r) :
    findRecord ((x.recapture c q o).2.foldl (CaptureStep.onRecords now b) rs) r = findRecord rs r := by
  rcases RxBank.recapture_mentions hmap hx hgo r with ⟨hnew, hkept, -⟩ | ⟨-, -, hfree, hcap⟩ | ⟨-, -, hcap, hfree⟩
  · exact findRecord_follow_unmentioned hnew hkept
  · cases hfree.symm.trans (h.trans hcap)
  · cases hcap.symm.trans (h.trans hfree)

/-- R58, R59: a CAPTURE tracker that keeps its position is untouched, and any other starts afresh. -/
theorem RxBank.recapture_starts {i : Nat} {k : Tracker} (hk : x.trackers[i]? = some k) (hkind : k.kind = some .capture) :
    ∃ k', (x.recapture c q o).1.trackers[i]? = some k' ∧ (k'.pos = k.pos → k' = k) ∧
      (k'.pos ≠ k.pos →
        k' = { kind := k.kind, state := if k'.pos.isSome then .acquiring else .idle, pos := k'.pos, failed := 0,
               sync := none, reception := .hunting, ahead := [] }) := by
  obtain ⟨k', hk', hor⟩ := RxBank.recapture_tracker (c := c) (q := q) (o := o) hk hkind
  refine ⟨k', hk', ?_⟩
  rcases hor with rfl | ⟨rfl, hpos⟩ | ⟨r, hr, rfl⟩
  · exact ⟨fun _ => rfl, fun h => absurd rfl h⟩
  · refine ⟨fun h => ?_, fun _ => rfl⟩
    cases h.trans hpos
  · refine ⟨fun h => ?_, fun _ => rfl⟩
    have hcap : x.isCaptured r = true := RxBank.isCaptured_iff.2 ⟨k, List.mem_of_getElem? hk, hkind, h.symm⟩
    rcases RxBank.recapture_mentions hmap hx hgo r with ⟨hn, -⟩ | ⟨-, -, hfree, -⟩ | ⟨-, hn, -⟩
    · exact absurd hr hn
    · cases hcap.symm.trans hfree
    · exact absurd hr hn

/-- A position released is one of the bank's side. -/
theorem RxBank.removedIn_side (hr : r ∈ removedIn (x.recapture c q o).2) : r ∈ sidePositions c.position b := by
  obtain ⟨hcap, -⟩ := (RxBank.mem_removedIn_recapture hmap hx hgo).1 hr
  obtain ⟨k, hk, -, hpos⟩ := RxBank.isCaptured_iff.1 hcap
  obtain ⟨-, hside, -⟩ := hx
  exact hside r (RxBank.mem_assigned.2 ⟨k, hk, hpos⟩)

/-- R143: the entries that a release takes from the Demand List. -/
theorem RxBank.recapture_demands (p : Pbc) (now : Moment) :
    ((removedIn (x.recapture c q o).2).foldl (Pbc.forget c now) p).demands =
      p.demands.filter fun d => !(decide (d.amp < 2 * c.n) &&
        (x.isCaptured (demandPos c.position d.amp d.reason) &&
          !(x.recapture c q o).1.isCaptured (demandPos c.position d.amp d.reason))) := by
  rw [foldl_forget_demands]
  refine List.filter_congr fun d _ => ?_
  have hdrawn : (∀ r ∈ removedIn (x.recapture c q o).2, d ∉ demandsFrom c r) ↔
      ¬ (d.amp < 2 * c.n ∧ demandPos c.position d.amp d.reason ∈ removedIn (x.recapture c q o).2) := by
    simp only [mem_demandsFrom]
    exact ⟨fun h ⟨ha, hr⟩ => h _ hr ⟨ha, rfl⟩, fun h r hr ⟨ha, hd⟩ => h ⟨ha, hd.symm ▸ hr⟩⟩
  rw [Bool.eq_iff_iff, decide_eq_true_iff, hdrawn, Bool.not_eq_true', ← Bool.not_eq_true, Bool.and_eq_true, decide_eq_true_iff,
    Bool.and_eq_true, Bool.not_eq_true', RxBank.mem_removedIn_recapture hmap hx hgo]

/-- R132, R133: where the targets stood, each pump takes the sum of the Demand List afterwards. -/
theorem RxBank.recapture_steered {p : Pbc} {now : Moment} (hp : p.retarget c now = p) {j : Nat} {y : Pump}
    (hy : p.pumps[j]? = some y) :
    ∃ y', ((removedIn (x.recapture c q o).2).foldl (Pbc.forget c now) p).pumps[j]? = some y' ∧
      Steered (c.pump j) now (targetSum c ((removedIn (x.recapture c q o).2).foldl (Pbc.forget c now) p) j) y y' := by
  have hnear : ∀ r ∈ removedIn (x.recapture c q o).2, r ≠ nearest c.position b → demandsFrom c r = [] := fun r hr =>
    demandsFrom_eq_nil (RxBank.removedIn_side hmap hx hgo hr)
  rw [foldl_forget_retarget hp _ hnear]
  exact Pbc.retarget_steered _ c now hy

end

/-- R57, with the distance written out. -/
theorem RxBank.recapture_nearest (hmap : x.map.map MapEntry.pos = sidePositions c.position b) (hx : x.distinct c.position b)
    (he : (x.recapture c q o).1.eligible c r = true) (hr : (x.recapture c q o).1.isCaptured r = false) {k : Tracker}
    (hk : k ∈ (x.recapture c q o).1.trackers) (hkind : k.kind = some .capture) :
    ∃ q', k.pos = some q' ∧ max q' c.position - min q' c.position < max r c.position - min r c.position := by
  have hmap' : (x.lettingGo q o).1.map.map MapEntry.pos = sidePositions c.position b := by
    rw [x.lettingGo_map]
    exact hmap
  obtain ⟨q', hpos, hlt⟩ := capturePolicy_nearest hmap' (hx.lettingGo q o) he hr hk hkind
  refine ⟨q', hpos, ?_⟩
  unfold distance at hlt
  omega

end

/-! ### The state after the dwell -/

theorem State.presenceChange_pbc_eq (u : State) (b : Bank) (q : Nat) (old new : Presence) :
    (u.presenceChange b q old new).pbc =
      (removedIn ((u.bank b).recapture u.cfg q new).2).foldl (Pbc.forget u.cfg u.now) u.pbc := by
  unfold State.presenceChange
  dsimp only
  rw [State.offerAll_pbc, State.followCaptures_pbc_eq, State.setBank_pbc, State.setBank_cfg, State.setBank_now]

theorem State.visited_now (s : State) (b : Bank) (w : Dwell) (o : Presence) : (s.visited b w o).now = max s.now w.ends := by
  cases b <;> rfl

theorem State.visited_pbc (s : State) (b : Bank) (w : Dwell) (o : Presence) : (s.visited b w o).pbc = s.pbc := by
  cases b <;> rfl

theorem State.visited_isCaptured (s : State) (b : Bank) (w : Dwell) (o : Presence) (q : Nat) :
    ((s.visited b w o).bank b).isCaptured q = (s.bank b).isCaptured q := by
  rw [State.visited_bank, RxBank.isCaptured, (RxBank.moveOn_keeps ..).2]
  rfl

theorem State.visited_trackers (s : State) (b : Bank) (w : Dwell) (o : Presence) :
    ((s.visited b w o).bank b).trackers = (s.bank b).trackers := by
  rw [State.visited_bank, (RxBank.moveOn_keeps ..).2]
  rfl

section
variable {s : State} {b : Bank} {w : Dwell} {o : Presence} {old : Presence}

theorem State.dwelt_recaptured (h : (s.bank b).confirms w.pos o = some old) :
    (s.dwelt b w o).bank b = (((s.visited b w o).bank b).recapture s.cfg w.pos o).1 ∧
      (s.dwelt b w o).records =
        (((s.visited b w o).bank b).recapture s.cfg w.pos o).2.foldl (CaptureStep.onRecords (max s.now w.ends) b) s.records ∧
      (s.dwelt b w o).pbc =
        (removedIn (((s.visited b w o).bank b).recapture s.cfg w.pos o).2).foldl (Pbc.forget s.cfg (max s.now w.ends)) s.pbc ∧
      (s.dwelt b w o).now = max s.now w.ends := by
  rw [State.dwelt_of_confirms h]
  refine ⟨?_, ?_, ?_, ?_⟩
  · rw [State.presenceChange_bank, State.visited_cfg]
  · rw [State.presenceChange_records, State.visited_cfg, State.visited_now, State.visited_records]
  · rw [State.presenceChange_pbc_eq, State.visited_cfg, State.visited_now, State.visited_pbc]
  · rw [State.presenceChange_now, State.visited_now]

theorem State.visited_settled (h : (s.bank b).confirms w.pos o = some old) (ho : o.alarming = false) :
    ((s.visited b w o).bank b).eligible s.cfg w.pos = false := by
  rw [State.visited_bank]
  exact RxBank.visited_not_eligible (by rw [h]; rfl) ho

theorem State.dwelt_capturesEligible (h : (s.bank b).confirms w.pos o = some old) (hs : (s.bank b).capturesEligible s.cfg) :
    ((s.dwelt b w o).bank b).capturesEligible s.cfg := by
  obtain ⟨hbank, -⟩ := State.dwelt_recaptured h
  rw [hbank, State.visited_bank]
  obtain ⟨steps, -, hcap⟩ := RxBank.recapture_captures s.cfg w.pos o
    (((s.bank b).observeAt w.pos o).moveOn s.cfg.position b w.ends w.pos)
  exact hcap.capturesEligible (hs.lettingGo (by rw [h]; rfl))

end

/-- Settles O20: R56 on a whole map, and a dwell that confirms a change, whose bank recaptures, the records and the Demand List
following its steps. -/
theorem capturesAreTheNearestEligible : Obligations.CapturesAreTheNearestEligible := by
  refine ⟨fun c b x q hmap => ?eligible, fun b d w e s hstate hdwell hmap hx hs he ho hp => ?dwell⟩
  case eligible =>
    dsimp only
    rw [RxBank.eligible_iff_of_whole hmap, mem_sidePositions]
    refine and_congr_left fun _ => ?_
    cases b <;> simp [Config.lastPosition]
  case dwell =>
    intro source farness captured
    have hconfirms : (s.bank b).confirms w.pos (observedClass d) = some e.confirmed := RxBank.confirms_eq_some he ho hp
    obtain ⟨hbank, hrecords, hpbc, hnow⟩ := State.dwelt_recaptured hconfirms
    have hmap' : ((s.visited b w (observedClass d)).bank b).map.map MapEntry.pos = sidePositions s.cfg.position b := by
      rw [s.visited_positions]
      exact hmap
    have hx' := State.visited_distinct w (observedClass d) hx
    have hgo := State.visited_settled hconfirms
    have hbefore (q : Nat) : captured s q = ((s.visited b w (observedClass d)).bank b).isCaptured q :=
      ((s.bank b).any_capture_eq q).trans (s.visited_isCaptured b w _ q).symm
    have hafter (q : Nat) : captured (s.dwelt b w (observedClass d)) q =
        (((s.visited b w (observedClass d)).bank b).recapture s.cfg w.pos (observedClass d)).1.isCaptured q := by
      rw [← hbank]
      exact RxBank.any_capture_eq _ q
    have hsource (a : Nat) (r : DemandReason) : source a r = demandPos s.cfg.position a r := by cases r <;> rfl
    have htrackers := s.visited_trackers b w (observedClass d)
    have honly := ((s.visited b w (observedClass d)).bank b).recapture_capturesOnly s.cfg w.pos (observedClass d)
    refine ⟨_, exec_dwellComplete d hstate hdwell, ⟨?created, ?removed, ?stands, ?frame, ?demands, ?kept, ?steered⟩, ?trackers,
      ?distinct, State.dwelt_capturesEligible hconfirms hs, ?kinds, ?pinned, ?near⟩
    case created =>
      intro q hfree hcap hnone
      rw [hrecords, hnow]
      exact findRecord_of_capture hmap' hx' hgo _ (hbefore q ▸ hfree) (hafter q ▸ hcap) hnone
    case removed =>
      intro q hq
      rw [Bool.and_eq_true, Bool.not_eq_true', hbefore, hafter] at hq
      obtain ⟨hcap, hfree⟩ := hq
      rw [hrecords]
      exact findRecord_of_release hmap' hx' hgo _ _ hcap hfree
    case stands =>
      intro q hq
      rw [hbefore, hafter] at hq
      rw [hrecords]
      exact findRecord_of_stay hmap' hx' hgo _ _ hq
    case frame =>
      rw [hpbc]
      exact foldl_forget_frame _ _
    case demands =>
      simp only [hsource, hbefore, hafter]
      rw [hpbc]
      exact RxBank.recapture_demands hmap' hx' hgo _ _
    case kept =>
      rw [hpbc]
      exact foldl_forget_kept _ _
    case steered =>
      intro hsound hcurrent j y hy
      rw [hpbc, hnow]
      exact RxBank.recapture_steered hmap' hx' hgo (Pbc.retarget_stands _ hsound hcurrent) hy
    case trackers =>
      intro i k hk hkind
      rw [hbank]
      exact RxBank.recapture_starts hmap' hx' hgo (htrackers ▸ hk) hkind
    case distinct =>
      rw [hbank]
      exact hx'.recapture hmap' _ _
    case kinds =>
      rw [hbank, honly.kinds, htrackers]
    case pinned =>
      intro i k hk hkind
      rw [hbank]
      exact honly.pinned i k (htrackers ▸ hk) (by rw [hkind]; decide)
    case near =>
      intro q hq hfree k hk hkind
      rw [hafter] at hfree
      rw [hbank] at hq hk
      exact RxBank.recapture_nearest hmap' hx' hq hfree hk hkind

end Sys2Proof.Machine
end
